-- ==== Sys2Proof/Word.lean ====
section
/-! DEFINITION. The word types of PUNPK (30_encoding.md R60; 00_scope.md R6). -/

namespace Sys2Proof

/-- A register of the window, WDATA and RDATA: 32 bits (20_memory.md R40, R43). -/
abbrev Word := BitVec 32

/-- A payload byte: 8 bits, unsigned (00_scope.md R6). -/
abbrev Byte := BitVec 8

/-- A bus request Q: 37 bits (30_encoding.md R60). -/
abbrev RequestWord := BitVec 37

end Sys2Proof
end

