-- ==== Sys2Proof/Config.lean ====
section
/-! DEFINITION. What a platform fixes for PUNPK: its base address (20_memory.md R41, 92_eei_decisions.md D3). -/

namespace Sys2Proof.Config

/-- Which 64-byte block of the host's address space holds the window. OPEN: the platform gives it, the spec
does not (20_memory.md R41); nothing can be proved of its value (log 5). -/
opaque baseIndex : Nat

/-- `PUNPK_BASE`, "a multiple of 64" (20_memory.md R41). -/
def punpkBase : Nat := 64 * baseIndex

end Sys2Proof.Config
end

