-- ==== Sys2Proof/Syntax.lean ====
section
/-! DEFINITION. The operations of PUNPK: one constructor for each row of spec/opcode_table.json
(30_encoding.md R61). A constructor carries every bit of the request that its row does not fix, the bits the
operation ignores too: WDATA of a read, WDATA of an ignored write, WDATA[31:1] of a CTRL write (log 9). -/

namespace Sys2Proof

/-- One bus request, as the operation it selects (30_encoding.md R61). -/
inductive Instr where
  /-- WR.IN0 (40_register_access.md R82). -/
  | wrIn0 (wdata : Word)
  /-- WR.IN1 (40_register_access.md R83). -/
  | wrIn1 (wdata : Word)
  /-- WR.LEN (40_register_access.md R84). -/
  | wrLen (wdata : Word)
  /-- WR.PORT (40_register_access.md R85). -/
  | wrPort (wdata : Word)
  /-- NOP (40_register_access.md R86). -/
  | nop (reserved : BitVec 31)
  /-- DECODE (41_decode.md R110). -/
  | decode (reserved : BitVec 31)
  /-- WR.STATUS (40_register_access.md R87). -/
  | wrStatus (wdata : Word)
  /-- WR.HUMIDITY (40_register_access.md R88). -/
  | wrHumidity (wdata : Word)
  /-- WR.RAW_TEMP (40_register_access.md R89). -/
  | wrRawTemp (wdata : Word)
  /-- WR.TEMP (40_register_access.md R90). -/
  | wrTemp (wdata : Word)
  /-- WR.WIND (40_register_access.md R91). -/
  | wrWind (wdata : Word)
  /-- WR.DEVID (40_register_access.md R92). -/
  | wrDevid (wdata : Word)
  /-- WR.UNMAPPED11 (40_register_access.md R93). -/
  | wrUnmapped11 (wdata : Word)
  /-- WR.UNMAPPED12_15 (40_register_access.md R94). -/
  | wrUnmapped12_15 (wa : BitVec 4) (wdata : Word)
  /-- RD.IN0 (40_register_access.md R95). -/
  | rdIn0 (wdata : Word)
  /-- RD.IN1 (40_register_access.md R96). -/
  | rdIn1 (wdata : Word)
  /-- RD.LEN (40_register_access.md R97). -/
  | rdLen (wdata : Word)
  /-- RD.PORT (40_register_access.md R98). -/
  | rdPort (wdata : Word)
  /-- RD.CTRL (40_register_access.md R99). -/
  | rdCtrl (wdata : Word)
  /-- RD.STATUS (40_register_access.md R100). -/
  | rdStatus (wdata : Word)
  /-- RD.HUMIDITY (40_register_access.md R101). -/
  | rdHumidity (wdata : Word)
  /-- RD.RAW_TEMP (40_register_access.md R102). -/
  | rdRawTemp (wdata : Word)
  /-- RD.TEMP (40_register_access.md R103). -/
  | rdTemp (wdata : Word)
  /-- RD.WIND (40_register_access.md R104). -/
  | rdWind (wdata : Word)
  /-- RD.DEVID (40_register_access.md R105). -/
  | rdDevid (wdata : Word)
  /-- RD.UNMAPPED11 (40_register_access.md R106). -/
  | rdUnmapped11 (wdata : Word)
  /-- RD.UNMAPPED12_15 (40_register_access.md R107). -/
  | rdUnmapped12_15 (wa : BitVec 4) (wdata : Word)
  deriving DecidableEq, Repr

/-- The row's mnemonic in spec/opcode_table.json. -/
def Instr.mnemonic : Instr → String
  | .wrIn0 _ => "WR.IN0"
  | .wrIn1 _ => "WR.IN1"
  | .wrLen _ => "WR.LEN"
  | .wrPort _ => "WR.PORT"
  | .nop _ => "NOP"
  | .decode _ => "DECODE"
  | .wrStatus _ => "WR.STATUS"
  | .wrHumidity _ => "WR.HUMIDITY"
  | .wrRawTemp _ => "WR.RAW_TEMP"
  | .wrTemp _ => "WR.TEMP"
  | .wrWind _ => "WR.WIND"
  | .wrDevid _ => "WR.DEVID"
  | .wrUnmapped11 _ => "WR.UNMAPPED11"
  | .wrUnmapped12_15 _ _ => "WR.UNMAPPED12_15"
  | .rdIn0 _ => "RD.IN0"
  | .rdIn1 _ => "RD.IN1"
  | .rdLen _ => "RD.LEN"
  | .rdPort _ => "RD.PORT"
  | .rdCtrl _ => "RD.CTRL"
  | .rdStatus _ => "RD.STATUS"
  | .rdHumidity _ => "RD.HUMIDITY"
  | .rdRawTemp _ => "RD.RAW_TEMP"
  | .rdTemp _ => "RD.TEMP"
  | .rdWind _ => "RD.WIND"
  | .rdDevid _ => "RD.DEVID"
  | .rdUnmapped11 _ => "RD.UNMAPPED11"
  | .rdUnmapped12_15 _ _ => "RD.UNMAPPED12_15"

end Sys2Proof
end

