-- ==== Sys2Proof/WellFormed.lean ====
section
/-! DEFINITION. Which operations a request word can be: the slot of the two rows for WA 12..15 is the only
operand that its type does not already bound (40_register_access.md R94, R107). -/

namespace Sys2Proof

/-- The word indexes of the rows UNMAPPED12_15: WA[3:2] = 0b11 (40_register_access.md R94). -/
def isHighSlot (wa : BitVec 4) : Bool := decide (12 ≤ wa.toNat)

/-- The check of an operation's operands. -/
def Instr.wellFormed : Instr → Bool
  | .wrIn0 _ => true
  | .wrIn1 _ => true
  | .wrLen _ => true
  | .wrPort _ => true
  | .nop _ => true
  | .decode _ => true
  | .wrStatus _ => true
  | .wrHumidity _ => true
  | .wrRawTemp _ => true
  | .wrTemp _ => true
  | .wrWind _ => true
  | .wrDevid _ => true
  | .wrUnmapped11 _ => true
  | .wrUnmapped12_15 wa _ => isHighSlot wa
  | .rdIn0 _ => true
  | .rdIn1 _ => true
  | .rdLen _ => true
  | .rdPort _ => true
  | .rdCtrl _ => true
  | .rdStatus _ => true
  | .rdHumidity _ => true
  | .rdRawTemp _ => true
  | .rdTemp _ => true
  | .rdWind _ => true
  | .rdDevid _ => true
  | .rdUnmapped11 _ => true
  | .rdUnmapped12_15 wa _ => isHighSlot wa

end Sys2Proof
end

