-- ==== Sys2Proof/Decode.lean ====
section
/-! DEFINITION. Decoding a request word, and encoding an operation (30_encoding.md R60 to R62, R68). -/

namespace Sys2Proof

/-- Bit 36, WE: 1 a write, 0 a read (30_encoding.md R60). -/
def reqWE (q : RequestWord) : Bool := q.getLsbD 36

/-- Bits 35:32, WA: the word index of the slot (30_encoding.md R60). -/
def reqWA (q : RequestWord) : BitVec 4 := q.extractLsb' 32 4

/-- Bits 31:0, WDATA (30_encoding.md R60). -/
def reqWDATA (q : RequestWord) : Word := q.extractLsb' 0 32

/-- `Q = WE * 2^36 + WA * 2^32 + WDATA` (30_encoding.md R60). -/
def request (we : Bool) (wa : BitVec 4) (wdata : Word) : RequestWord :=
  BitVec.ofBool we ++ wa ++ wdata

/-- The write to CTRL: WDATA[0] selects, WDATA[31:1] takes no part (30_encoding.md R62). -/
def decodeCtrl (wdata : Word) : Instr :=
  if wdata.getLsbD 0 then .decode (wdata.extractLsb' 1 31) else .nop (wdata.extractLsb' 1 31)

/-- The column WE = 1 of the opcode map (30_encoding.md R61). -/
def decodeWrite (wa : BitVec 4) (wdata : Word) : Instr :=
  match wa.toNat with
  | 0 => .wrIn0 wdata
  | 1 => .wrIn1 wdata
  | 2 => .wrLen wdata
  | 3 => .wrPort wdata
  | 4 => decodeCtrl wdata
  | 5 => .wrStatus wdata
  | 6 => .wrHumidity wdata
  | 7 => .wrRawTemp wdata
  | 8 => .wrTemp wdata
  | 9 => .wrWind wdata
  | 10 => .wrDevid wdata
  | 11 => .wrUnmapped11 wdata
  | _ => .wrUnmapped12_15 wa wdata

/-- The column WE = 0 of the opcode map (30_encoding.md R61). -/
def decodeRead (wa : BitVec 4) (wdata : Word) : Instr :=
  match wa.toNat with
  | 0 => .rdIn0 wdata
  | 1 => .rdIn1 wdata
  | 2 => .rdLen wdata
  | 3 => .rdPort wdata
  | 4 => .rdCtrl wdata
  | 5 => .rdStatus wdata
  | 6 => .rdHumidity wdata
  | 7 => .rdRawTemp wdata
  | 8 => .rdTemp wdata
  | 9 => .rdWind wdata
  | 10 => .rdDevid wdata
  | 11 => .rdUnmapped11 wdata
  | _ => .rdUnmapped12_15 wa wdata

/-- The operation a request word selects. Total: no request word is illegal (30_encoding.md R61, R66). -/
def decode (q : RequestWord) : Instr :=
  if reqWE q then decodeWrite (reqWA q) (reqWDATA q) else decodeRead (reqWA q) (reqWDATA q)

/-- Why bytes are no request word. -/
inductive DecodeRefusal where
  /-- Not the ten hexadecimal digits of 30_encoding.md R60: every request has the one length (R68). -/
  | notFiveBytes (n : Nat)
  /-- A bit above bit 36 is set: a request has 37 bits (30_encoding.md R60). -/
  | bitAbove36
  deriving DecidableEq, Repr

/-- A request written as five bytes, bits 7:0 first (log 8). -/
def decodeBytes : List Byte → Except DecodeRefusal Instr
  | [b0, b1, b2, b3, b4] =>
    if b4.extractLsb' 5 3 = 0 then .ok (decode (b4.extractLsb' 0 5 ++ b3 ++ b2 ++ b1 ++ b0))
    else .error .bitAbove36
  | bs => .error (.notFiveBytes bs.length)

/-- The `n` low bytes of a number, least significant first. -/
def bytesOfNat : Nat → Nat → List Byte
  | 0, _ => []
  | n + 1, w => BitVec.ofNat 8 w :: bytesOfNat n (w / 256)

/-- What the decoder reads from a word numbered as spec/opcode_table.json numbers it, the bits above `nbits`
zero; none where the decoder refuses (log 8). -/
def decodeTableWord (nbits w : Nat) : Option Instr :=
  match decodeBytes (bytesOfNat (max 5 ((nbits + 7) / 8)) (w % 2 ^ nbits)) with
  | .ok i => some i
  | .error _ => none

/-- The request word of an operation, from the match and pattern of its row of spec/opcode_table.json. -/
def encode : Instr → RequestWord
  | .wrIn0 wdata => request true 0 wdata
  | .wrIn1 wdata => request true 1 wdata
  | .wrLen wdata => request true 2 wdata
  | .wrPort wdata => request true 3 wdata
  | .nop reserved => request true 4 (reserved ++ 0#1)
  | .decode reserved => request true 4 (reserved ++ 1#1)
  | .wrStatus wdata => request true 5 wdata
  | .wrHumidity wdata => request true 6 wdata
  | .wrRawTemp wdata => request true 7 wdata
  | .wrTemp wdata => request true 8 wdata
  | .wrWind wdata => request true 9 wdata
  | .wrDevid wdata => request true 10 wdata
  | .wrUnmapped11 wdata => request true 11 wdata
  | .wrUnmapped12_15 wa wdata => request true wa wdata
  | .rdIn0 wdata => request false 0 wdata
  | .rdIn1 wdata => request false 1 wdata
  | .rdLen wdata => request false 2 wdata
  | .rdPort wdata => request false 3 wdata
  | .rdCtrl wdata => request false 4 wdata
  | .rdStatus wdata => request false 5 wdata
  | .rdHumidity wdata => request false 6 wdata
  | .rdRawTemp wdata => request false 7 wdata
  | .rdTemp wdata => request false 8 wdata
  | .rdWind wdata => request false 9 wdata
  | .rdDevid wdata => request false 10 wdata
  | .rdUnmapped11 wdata => request false 11 wdata
  | .rdUnmapped12_15 wa wdata => request false wa wdata

/-- A row of spec/opcode_table.json: a word Q selects the row when `Q & mask = value` (30_encoding.md R61). -/
structure OpRow where
  mnemonic : String
  value : RequestWord
  mask : RequestWord
  deriving DecidableEq, Repr

/-- The test of 30_encoding.md R61. -/
def OpRow.selectedBy (r : OpRow) (q : RequestWord) : Bool := q &&& r.mask == r.value

/-- The write and command rows of spec/opcode_table.json. -/
def writeRows : List OpRow := [
  { mnemonic := "WR.IN0", value := 0x1000000000, mask := 0x1F00000000 },
  { mnemonic := "WR.IN1", value := 0x1100000000, mask := 0x1F00000000 },
  { mnemonic := "WR.LEN", value := 0x1200000000, mask := 0x1F00000000 },
  { mnemonic := "WR.PORT", value := 0x1300000000, mask := 0x1F00000000 },
  { mnemonic := "NOP", value := 0x1400000000, mask := 0x1F00000001 },
  { mnemonic := "DECODE", value := 0x1400000001, mask := 0x1F00000001 },
  { mnemonic := "WR.STATUS", value := 0x1500000000, mask := 0x1F00000000 },
  { mnemonic := "WR.HUMIDITY", value := 0x1600000000, mask := 0x1F00000000 },
  { mnemonic := "WR.RAW_TEMP", value := 0x1700000000, mask := 0x1F00000000 },
  { mnemonic := "WR.TEMP", value := 0x1800000000, mask := 0x1F00000000 },
  { mnemonic := "WR.WIND", value := 0x1900000000, mask := 0x1F00000000 },
  { mnemonic := "WR.DEVID", value := 0x1A00000000, mask := 0x1F00000000 },
  { mnemonic := "WR.UNMAPPED11", value := 0x1B00000000, mask := 0x1F00000000 },
  { mnemonic := "WR.UNMAPPED12_15", value := 0x1C00000000, mask := 0x1C00000000 } ]

/-- The read rows of spec/opcode_table.json. -/
def readRows : List OpRow := [
  { mnemonic := "RD.IN0", value := 0x0000000000, mask := 0x1F00000000 },
  { mnemonic := "RD.IN1", value := 0x0100000000, mask := 0x1F00000000 },
  { mnemonic := "RD.LEN", value := 0x0200000000, mask := 0x1F00000000 },
  { mnemonic := "RD.PORT", value := 0x0300000000, mask := 0x1F00000000 },
  { mnemonic := "RD.CTRL", value := 0x0400000000, mask := 0x1F00000000 },
  { mnemonic := "RD.STATUS", value := 0x0500000000, mask := 0x1F00000000 },
  { mnemonic := "RD.HUMIDITY", value := 0x0600000000, mask := 0x1F00000000 },
  { mnemonic := "RD.RAW_TEMP", value := 0x0700000000, mask := 0x1F00000000 },
  { mnemonic := "RD.TEMP", value := 0x0800000000, mask := 0x1F00000000 },
  { mnemonic := "RD.WIND", value := 0x0900000000, mask := 0x1F00000000 },
  { mnemonic := "RD.DEVID", value := 0x0A00000000, mask := 0x1F00000000 },
  { mnemonic := "RD.UNMAPPED11", value := 0x0B00000000, mask := 0x1F00000000 },
  { mnemonic := "RD.UNMAPPED12_15", value := 0x0C00000000, mask := 0x1C00000000 } ]

/-- The 27 rows of the opcode map (30_encoding.md R61). -/
def opcodeTable : List OpRow := writeRows ++ readRows

end Sys2Proof
end

