-- ==== Sys2Proof/Machine/State.lean ====
section
/-! DEFINITION. The state of PUNPK: the ten storage registers of 10_state.md R21, and beside them the block's
interface to the outside (the model's own fields: logs 1, 2, 4). -/

namespace Sys2Proof.Machine

/-- The ways the machine can stop with a fault. -/
inductive Fault where
  /-- Raised by `step` alone, when an access reaches the port while reset is asserted: "While reset is asserted
  the block performs no access" (70_reset_and_hazards.md R151); stuck by 93_implementation_defined.md I6.
  Safe: the model goes no further, where the platform answers the host in its own way. -/
  | accessDuringReset
  deriving DecidableEq, Repr

/-- The accesses and operations the model gives no meaning. -/
inductive Refusal where
  /-- An operation without a meaning in this model. `exec` raises it for none. Safe. -/
  | notModelled (mnemonic : String)
  /-- Raised by `step` alone, for a host access in the window that is not 32 bits wide at a multiple of 4:
  "a model refuses it" (20_memory.md R45). Safe. -/
  | notAWordAccess (addr bytes : Nat)
  /-- Raised by `step` alone, for a host access whose address lies outside the window: the interconnect does
  not select PUNPK (20_memory.md R41), and the spec does not say who answers (log 6). Safe. -/
  | outsideWindow (addr : Nat)
  deriving DecidableEq, Repr

/-- The ten storage registers, the complete architectural state (10_state.md R21, R29). Each is a 32-bit slot of
the window (20_memory.md R40, R43); CTRL and the unmapped slots store nothing. Reserved bits are 0 by the invariant
(log 7). -/
structure Regs where
  /-- IN0, payload bytes 0 to 3 (10_state.md R22). -/
  in0 : Word
  /-- IN1, payload bytes 4 to 7 (10_state.md R22). -/
  in1 : Word
  /-- LEN, the declared length in bits 7:0 (10_state.md R25). -/
  len : Word
  /-- PORT, the port number in bits 7:0 (10_state.md R26). -/
  port : Word
  /-- STATUS: VALID in bit 0, SHORT in bit 1 (10_state.md R28). -/
  status : Word
  /-- HUMIDITY (10_state.md R30). -/
  humidity : Word
  /-- RAW_TEMP (10_state.md R31). -/
  rawTemp : Word
  /-- TEMP, two's complement tenths (10_state.md R31). -/
  temp : Word
  /-- WIND, tenths (10_state.md R32). -/
  wind : Word
  /-- DEVID (10_state.md R33). -/
  devid : Word
  deriving DecidableEq, Repr

/-- A host's access by byte address, before the platform's interconnect (20_memory.md R41, R45). -/
structure HostAccess where
  write : Bool
  addr : Nat
  bytes : Nat
  data : Word
  deriving DecidableEq, Repr

/-- What the outside does next at the block. -/
inductive BusEvent where
  /-- A request word at the port (30_encoding.md R60). -/
  | request (q : RequestWord)
  /-- A host access by byte address, through the interconnect (20_memory.md R41). -/
  | access (a : HostAccess)
  /-- The platform asserts reset (70_reset_and_hazards.md R151). -/
  | assertReset
  /-- The platform releases reset (70_reset_and_hazards.md R151). -/
  | releaseReset
  deriving DecidableEq, Repr

/-- The machine. `regs` is the spec's state; the other three fields are the model's own, the interface. -/
structure State where
  regs : Regs
  /-- The level of the reset input (70_reset_and_hazards.md R151; log 4). -/
  inReset : Bool
  /-- RDATA of the access just performed; none after a write (30_encoding.md R60; log 2). -/
  rdata : Option Word
  /-- What is still to come at the port, oldest first (20_memory.md R50; log 1). -/
  bus : List BusEvent
  deriving DecidableEq, Repr

/-- The reset values of 70_reset_and_hazards.md R150. -/
def Regs.reset : Regs where
  in0 := 0x00000000
  in1 := 0x00000000
  len := 0x00000000
  port := 0x00000000
  status := 0x00000000
  humidity := 0x00000000
  rawTemp := 0x00000000
  temp := 0x00000000
  wind := 0x00000000
  devid := 0x00000000

/-- The machine right after reset: the registers as 70_reset_and_hazards.md R150 gives them, reset released,
nothing answered and nothing pending (R152: "ready for any access in the first step after reset"). -/
def State.reset : State where
  regs := Regs.reset
  inReset := false
  rdata := none
  bus := []

end Sys2Proof.Machine
end

