-- ==== Sys2Proof/Machine/Operands.lean ====
section
/-! DEFINITION. Operand forms and the datapath: extensions, payload bytes, the fields of a reading, the register
a read answers from (00_scope.md R8, R9; 10_state.md R22, R29; 30_encoding.md R63, R64; 41_decode.md R111 to R117). -/

namespace Sys2Proof.Machine

/-- `zext_32(v)` (00_scope.md R8). -/
def zext32 {n : Nat} (v : BitVec n) : Word := v.setWidth 32

/-- `sext_32(v)`, the 32-bit two's complement of an integer (00_scope.md R8). -/
def sext32 (v : Int) : Word := BitVec.ofInt 32 v

/-- `sint(w)`, a word read as two's complement (00_scope.md R8). -/
def sint (w : Word) : Int := w.toInt

/-- The number an integer in tenths stands for (00_scope.md R9). -/
def tenths (n : Int) : Rat := (n : Rat) / 10

/-- `WDATA[7:0]`, what WR.LEN and WR.PORT take (30_encoding.md R63). -/
def lowByte (w : Word) : Byte := w.extractLsb' 0 8

/-- Byte j of a word, bits 8j+7..8j (20_memory.md R43). -/
def byteOf (w : Word) (j : Nat) : Byte := w.extractLsb' (8 * j) 8

/-- Payload byte `b[i]`, i = 0..7, as held in IN0 and IN1 (10_state.md R22). -/
def Regs.payloadByte (r : Regs) (i : Nat) : Byte :=
  if i < 4 then byteOf r.in0 i else byteOf r.in1 (i - 4)

/-- `LEN[7:0]`, the only thing the length check reads (10_state.md R25). -/
def Regs.declaredLength (r : Regs) : Nat := (r.len.extractLsb' 0 8).toNat

/-- The payload length below which a decode raises PayloadTooShort (00_scope.md R6). -/
def minLength : Nat := 8

/-- The temperature offset, in raw units (00_scope.md R6, 90_conflicts.md C3). -/
def tempOffset : Int := 500

/-- rawTemp: byte 2's low nibble above byte 1 (41_decode.md R113). -/
def rawTempField (b1 b2 : Byte) : BitVec 12 := b2.extractLsb' 0 4 ++ b1

/-- rawWind: byte 3 above byte 2's high nibble (41_decode.md R114). -/
def rawWindField (b2 b3 : Byte) : BitVec 12 := b3 ++ b2.extractLsb' 4 4

/-- devid, little-endian across bytes 4 to 7 (41_decode.md R115). -/
def devidField (b4 b5 b6 b7 : Byte) : Word := b7 ++ b6 ++ b5 ++ b4

/-- The temperature in tenths: the exact integer rawTemp - 500, then 32-bit two's complement (41_decode.md R116). -/
def tempField (rawTemp : BitVec 12) : Word := sext32 (rawTemp.toNat - tempOffset)

/-- What a decode computes: `(h, rt, t, w, d)` with the widths of 41_decode.md R111. -/
structure Fields where
  humidity : BitVec 8
  rawTemp : BitVec 12
  temp : Word
  wind : BitVec 12
  devid : Word
  deriving DecidableEq, Repr

/-- The datapath (41_decode.md R111). -/
def decodeFields (in0 in1 : Word) : Fields :=
  let rawTemp := rawTempField (byteOf in0 1) (byteOf in0 2)
  { humidity := byteOf in0 0
    rawTemp := rawTemp
    temp := tempField rawTemp
    wind := rawWindField (byteOf in0 2) (byteOf in0 3)
    devid := devidField (byteOf in1 0) (byteOf in1 1) (byteOf in1 2) (byteOf in1 3) }

/-- The address map as a read sees it: CTRL and the unmapped slots read 0 (10_state.md R29, 20_memory.md R48). -/
def Regs.slotValue (r : Regs) (wa : BitVec 4) : Word :=
  match wa.toNat with
  | 0 => r.in0
  | 1 => r.in1
  | 2 => r.len
  | 3 => r.port
  | 5 => r.status
  | 6 => r.humidity
  | 7 => r.rawTemp
  | 8 => r.temp
  | 9 => r.wind
  | 10 => r.devid
  | _ => 0x00000000

end Sys2Proof.Machine
end

