-- ==== Sys2Proof/Machine/Flags.lean ====
section
/-! DEFINITION. STATUS and its two flags, VALID and SHORT, and the length check that decides them
(10_state.md R28; 41_decode.md R110, R120). -/

namespace Sys2Proof.Machine

/-- A STATUS word: VALID in bit 0, SHORT in bit 1, bits 31:2 zero (10_state.md R28). -/
def statusWord (valid short : Bool) : Word := zext32 (BitVec.ofBool short ++ BitVec.ofBool valid)

/-- STATUS.VALID (10_state.md R28). -/
def Regs.valid (r : Regs) : Bool := r.status.getLsbD 0

/-- STATUS.SHORT (10_state.md R28). -/
def Regs.short (r : Regs) : Bool := r.status.getLsbD 1

/-- The length check at the start of DECODE: `LEN[7:0] < 8` (41_decode.md R120). -/
def Regs.tooShort (r : Regs) : Bool := decide (r.declaredLength < minLength)

end Sys2Proof.Machine
end

