-- ==== Sys2Proof/Machine/Ops.lean ====
section
/-! DEFINITION. The shared operations: how an access ends, the register writes, the one exception, the latching of
a reading, and reset (40_register_access.md R80, R81; 41_decode.md R110; 60_exceptions.md R130;
70_reset_and_hazards.md R150, R151). -/

namespace Sys2Proof.Machine

/-- What an access ends in. -/
abbrev Result := Host.Outcome State Fault Refusal

/-- A write ends: the registers are as given, and there is no data answer (40_register_access.md R80). -/
def acceptWrite (r : Regs) (s : State) : Result := .next { s with regs := r, rdata := none }

/-- A write that changes no register: `skip` (40_register_access.md R86 to R94). -/
def ignoreWrite (s : State) : Result := acceptWrite s.regs s

/-- A read ends: RDATA is the answer and no register changes (40_register_access.md R81). -/
def answerRead (v : Word) (s : State) : Result := .next { s with rdata := some v }

/-- `IN0 <- WDATA[31:0]` (40_register_access.md R82). -/
def Regs.writeIn0 (r : Regs) (wdata : Word) : Regs := { r with in0 := wdata }

/-- `IN1 <- WDATA[31:0]` (40_register_access.md R83). -/
def Regs.writeIn1 (r : Regs) (wdata : Word) : Regs := { r with in1 := wdata }

/-- `LEN <- zext_32(WDATA[7:0])` (40_register_access.md R84). -/
def Regs.writeLen (r : Regs) (wdata : Word) : Regs := { r with len := zext32 (lowByte wdata) }

/-- `PORT <- zext_32(WDATA[7:0])` (40_register_access.md R85). -/
def Regs.writePort (r : Regs) (wdata : Word) : Regs := { r with port := zext32 (lowByte wdata) }

/-- Taking the one exception, PayloadTooShort: the five outputs are cleared and STATUS reports SHORT; nothing is
saved, no mode changes and no vector is taken (41_decode.md R110, R120; 60_exceptions.md R130, R134). There is no
return from it: SHORT stays until the next DECODE or reset (60_exceptions.md R135). The cause code
1 of R130 is stored nowhere (log 10). -/
def Regs.raisePayloadTooShort (r : Regs) : Regs :=
  { r with
    humidity := 0x00000000
    rawTemp := 0x00000000
    temp := 0x00000000
    wind := 0x00000000
    devid := 0x00000000
    status := statusWord false true }

/-- A successful decode latches its reading and reports VALID (41_decode.md R110). -/
def Regs.latch (r : Regs) (f : Fields) : Regs :=
  { r with
    humidity := zext32 f.humidity
    rawTemp := zext32 f.rawTemp
    temp := f.temp
    wind := zext32 f.wind
    devid := f.devid
    status := statusWord true false }

/-- The registers after a decode (41_decode.md R110). -/
def Regs.afterDecode (r : Regs) : Regs :=
  if r.tooShort then r.raisePayloadTooShort else r.latch (decodeFields r.in0 r.in1)

/-- Reset is asserted: every storage register takes its reset value in one step (70_reset_and_hazards.md R150, R151). -/
def State.assertReset (s : State) : State := { s with regs := Regs.reset, inReset := true, rdata := none }

/-- Reset is released: the block is ready for any access (70_reset_and_hazards.md R152). -/
def State.releaseReset (s : State) : State := { s with inReset := false, rdata := none }

end Sys2Proof.Machine
end

