-- ==== Sys2Proof/Machine/Bus.lean ====
section
/-! DEFINITION. What reaches the port: the interconnect's window and word index (20_memory.md R41, R45), and what
the block makes of the next bus event (20_memory.md R50; 70_reset_and_hazards.md R151). -/

namespace Sys2Proof.Machine

/-- Whether the interconnect selects PUNPK: `PUNPK_BASE` to `PUNPK_BASE + 0x3F` (20_memory.md R41). -/
def inWindow (addr : Nat) : Bool :=
  decide (Config.punpkBase ≤ addr) && decide (addr ≤ Config.punpkBase + 0x3F)

/-- `WA = (addr - PUNPK_BASE)[5:2]` (20_memory.md R41). -/
def wordIndex (addr : Nat) : BitVec 4 := (BitVec.ofNat 6 (addr - Config.punpkBase)).extractLsb' 2 4

/-- Exactly 32 bits, at a multiple of 4 (20_memory.md R45). -/
def HostAccess.isWord (a : HostAccess) : Bool := a.bytes == 4 && a.addr % 4 == 0

/-- The request word a host access becomes, or why it becomes none (20_memory.md R41, R45). A read puts WDATA = 0,
the canonical encoding (30_encoding.md R69). -/
def interconnect (a : HostAccess) : Except Refusal RequestWord :=
  if inWindow a.addr then
    if a.isWord then .ok (request a.write (wordIndex a.addr) (if a.write then a.data else 0))
    else .error (.notAWordAccess a.addr a.bytes)
  else .error (.outsideWindow a.addr)

/-- What the block does about a bus event: perform a request, or be done with it. -/
inductive Arrival where
  | perform (q : RequestWord)
  | settle (r : Result)
deriving Repr

/-- A request at the port: performed, unless reset is asserted (70_reset_and_hazards.md R151). -/
def arriveRequest (q : RequestWord) (s : State) : Arrival :=
  if s.inReset then .settle (.fault .accessDuringReset) else .perform q

/-- The next bus event, already taken off the list of `s`. -/
def arrive (e : BusEvent) (s : State) : Arrival :=
  match e with
  | .request q => arriveRequest q s
  | .access a =>
    match interconnect a with
    | .ok q => arriveRequest q s
    | .error r => .settle (.refused r)
  | .assertReset => .settle (.next s.assertReset)
  | .releaseReset => .settle (.next s.releaseReset)

/-- With nothing pending the block holds its state (60_exceptions.md R142; log 3). -/
def idle (s : State) : Result := .next s

/-- A table word as the 37 wires of the port carry it (30_encoding.md R60; log 8). -/
def requestOfTableWord (nbits w : Nat) : RequestWord := BitVec.ofNat 37 (w % 2 ^ nbits)

/-- The machine with that request the very next thing at the port, and reset released so that it is performed
(log 1). -/
def placeRequest (s : State) (q : RequestWord) : State :=
  { s with inReset := false, bus := .request q :: s.bus }

end Sys2Proof.Machine
end

