-- ==== Sys2Proof/Machine/Command.lean ====
section
/-! DEFINITION. DECODE, the one command (41_decode.md R110). -/

namespace Sys2Proof.Machine

/-- DECODE: the length check, then the reading or PayloadTooShort, in one step within the CTRL write
(41_decode.md R110). -/
def execDecode (_reserved : BitVec 31) (s : State) : Result := acceptWrite s.regs.afterDecode s

end Sys2Proof.Machine
end

