-- ==== Sys2Proof/Machine/Reads.lean ====
section
/-! DEFINITION. The reads of 40_register_access.md (R95 to R107). WDATA of a read is ignored (30_encoding.md R60). -/

namespace Sys2Proof.Machine

/-- RD.IN0: `RDATA <- IN0` (R95). -/
def execRdIn0 (_wdata : Word) (s : State) : Result := answerRead s.regs.in0 s

/-- RD.IN1: `RDATA <- IN1` (R96). -/
def execRdIn1 (_wdata : Word) (s : State) : Result := answerRead s.regs.in1 s

/-- RD.LEN: `RDATA <- LEN` (R97). -/
def execRdLen (_wdata : Word) (s : State) : Result := answerRead s.regs.len s

/-- RD.PORT: `RDATA <- PORT` (R98). -/
def execRdPort (_wdata : Word) (s : State) : Result := answerRead s.regs.port s

/-- RD.CTRL: `RDATA <- 0x00000000` (R99). -/
def execRdCtrl (_wdata : Word) (s : State) : Result := answerRead 0x00000000 s

/-- RD.STATUS: `RDATA <- STATUS` (R100). -/
def execRdStatus (_wdata : Word) (s : State) : Result := answerRead s.regs.status s

/-- RD.HUMIDITY: `RDATA <- HUMIDITY` (R101). -/
def execRdHumidity (_wdata : Word) (s : State) : Result := answerRead s.regs.humidity s

/-- RD.RAW_TEMP: `RDATA <- RAW_TEMP` (R102). -/
def execRdRawTemp (_wdata : Word) (s : State) : Result := answerRead s.regs.rawTemp s

/-- RD.TEMP: `RDATA <- TEMP` (R103). -/
def execRdTemp (_wdata : Word) (s : State) : Result := answerRead s.regs.temp s

/-- RD.WIND: `RDATA <- WIND` (R104). -/
def execRdWind (_wdata : Word) (s : State) : Result := answerRead s.regs.wind s

/-- RD.DEVID: `RDATA <- DEVID` (R105). -/
def execRdDevid (_wdata : Word) (s : State) : Result := answerRead s.regs.devid s

/-- RD.UNMAPPED11: `RDATA <- 0x00000000` (R106). -/
def execRdUnmapped11 (_wdata : Word) (s : State) : Result := answerRead 0x00000000 s

/-- RD.UNMAPPED12_15: `RDATA <- 0x00000000` (R107). -/
def execRdUnmapped12_15 (_wa : BitVec 4) (_wdata : Word) (s : State) : Result := answerRead 0x00000000 s

end Sys2Proof.Machine
end

