-- ==== Sys2Proof/Machine/Writes.lean ====
section
/-! DEFINITION. The writes of 40_register_access.md: to the input registers (R82 to R85), NOP (R86), and to the
read-only and unmapped slots, which ignore them (R87 to R94). -/

namespace Sys2Proof.Machine

/-- WR.IN0 (R82). -/
def execWrIn0 (wdata : Word) (s : State) : Result := acceptWrite (s.regs.writeIn0 wdata) s

/-- WR.IN1 (R83). -/
def execWrIn1 (wdata : Word) (s : State) : Result := acceptWrite (s.regs.writeIn1 wdata) s

/-- WR.LEN (R84). -/
def execWrLen (wdata : Word) (s : State) : Result := acceptWrite (s.regs.writeLen wdata) s

/-- WR.PORT (R85). -/
def execWrPort (wdata : Word) (s : State) : Result := acceptWrite (s.regs.writePort wdata) s

/-- NOP: `skip` (R86). -/
def execNop (_reserved : BitVec 31) (s : State) : Result := ignoreWrite s

/-- WR.STATUS: `skip` (R87). -/
def execWrStatus (_wdata : Word) (s : State) : Result := ignoreWrite s

/-- WR.HUMIDITY: `skip` (R88). -/
def execWrHumidity (_wdata : Word) (s : State) : Result := ignoreWrite s

/-- WR.RAW_TEMP: `skip` (R89). -/
def execWrRawTemp (_wdata : Word) (s : State) : Result := ignoreWrite s

/-- WR.TEMP: `skip` (R90). -/
def execWrTemp (_wdata : Word) (s : State) : Result := ignoreWrite s

/-- WR.WIND: `skip` (R91). -/
def execWrWind (_wdata : Word) (s : State) : Result := ignoreWrite s

/-- WR.DEVID: `skip` (R92). -/
def execWrDevid (_wdata : Word) (s : State) : Result := ignoreWrite s

/-- WR.UNMAPPED11: `skip` (R93). -/
def execWrUnmapped11 (_wdata : Word) (s : State) : Result := ignoreWrite s

/-- WR.UNMAPPED12_15: `skip` (R94). -/
def execWrUnmapped12_15 (_wa : BitVec 4) (_wdata : Word) (s : State) : Result := ignoreWrite s

end Sys2Proof.Machine
end

