-- ==== Sys2Proof/Machine/Dispatch.lean ====
section
/-! DEFINITION. One arm per operation of 30_encoding.md R61. -/

namespace Sys2Proof.Machine

/-- What an operation does to the machine. -/
def exec (i : Instr) (s : State) : Host.Outcome State Fault Refusal :=
  match i with
  | .wrIn0 wdata => Sys2Proof.Machine.execWrIn0 wdata s
  | .wrIn1 wdata => Sys2Proof.Machine.execWrIn1 wdata s
  | .wrLen wdata => Sys2Proof.Machine.execWrLen wdata s
  | .wrPort wdata => Sys2Proof.Machine.execWrPort wdata s
  | .nop reserved => Sys2Proof.Machine.execNop reserved s
  | .decode reserved => Sys2Proof.Machine.execDecode reserved s
  | .wrStatus wdata => Sys2Proof.Machine.execWrStatus wdata s
  | .wrHumidity wdata => Sys2Proof.Machine.execWrHumidity wdata s
  | .wrRawTemp wdata => Sys2Proof.Machine.execWrRawTemp wdata s
  | .wrTemp wdata => Sys2Proof.Machine.execWrTemp wdata s
  | .wrWind wdata => Sys2Proof.Machine.execWrWind wdata s
  | .wrDevid wdata => Sys2Proof.Machine.execWrDevid wdata s
  | .wrUnmapped11 wdata => Sys2Proof.Machine.execWrUnmapped11 wdata s
  | .wrUnmapped12_15 wa wdata => Sys2Proof.Machine.execWrUnmapped12_15 wa wdata s
  | .rdIn0 wdata => Sys2Proof.Machine.execRdIn0 wdata s
  | .rdIn1 wdata => Sys2Proof.Machine.execRdIn1 wdata s
  | .rdLen wdata => Sys2Proof.Machine.execRdLen wdata s
  | .rdPort wdata => Sys2Proof.Machine.execRdPort wdata s
  | .rdCtrl wdata => Sys2Proof.Machine.execRdCtrl wdata s
  | .rdStatus wdata => Sys2Proof.Machine.execRdStatus wdata s
  | .rdHumidity wdata => Sys2Proof.Machine.execRdHumidity wdata s
  | .rdRawTemp wdata => Sys2Proof.Machine.execRdRawTemp wdata s
  | .rdTemp wdata => Sys2Proof.Machine.execRdTemp wdata s
  | .rdWind wdata => Sys2Proof.Machine.execRdWind wdata s
  | .rdDevid wdata => Sys2Proof.Machine.execRdDevid wdata s
  | .rdUnmapped11 wdata => Sys2Proof.Machine.execRdUnmapped11 wdata s
  | .rdUnmapped12_15 wa wdata => Sys2Proof.Machine.execRdUnmapped12_15 wa wdata s

end Sys2Proof.Machine
end

