-- ==== Sys2Proof/Machine/Step.lean ====
section
/-! DEFINITION. One step: the next bus event is taken and, if it is a request, performed (20_memory.md R46, R50). -/

namespace Sys2Proof.Machine

/-- One step of the machine: one access is one step (70_reset_and_hazards.md R160). -/
def step (s : State) : Host.Outcome State Fault Refusal :=
  match s.bus with
  | [] => idle s
  | e :: rest =>
    match arrive e { s with bus := rest } with
    | .perform q => exec (decode q) { s with bus := rest }
    | .settle r => r

/-- The machine with a table word as the next request at the port (logs 1, 8). -/
def State.withFetchWord (s : State) (nbits w : Nat) : State := placeRequest s (requestOfTableWord nbits w)

end Sys2Proof.Machine
end

