-- ==== Sys2Proof/Machine/Pseudo.lean ====
section
/-! DEFINITION. The host notation of 30_encoding.md R69 and the pseudo-instructions of R70, as request words. -/

namespace Sys2Proof.Machine

/-- `<REG>` of the notation (30_encoding.md R69). -/
inductive SlotName where
  | in0 | in1 | len | port | ctrl | status | humidity | rawTemp | temp | wind | devid
  | slot11 | slot12 | slot13 | slot14 | slot15
  deriving DecidableEq, Repr

/-- `index(REG)`, the word index of 10_state.md R29 (30_encoding.md R69). -/
def slotIndex : SlotName → BitVec 4
  | .in0 => 0
  | .in1 => 1
  | .len => 2
  | .port => 3
  | .ctrl => 4
  | .status => 5
  | .humidity => 6
  | .rawTemp => 7
  | .temp => 8
  | .wind => 9
  | .devid => 10
  | .slot11 => 11
  | .slot12 => 12
  | .slot13 => 13
  | .slot14 => 14
  | .slot15 => 15

/-- `wr <REG>, <value>` (30_encoding.md R69). -/
def wrReq (reg : SlotName) (value : Word) : RequestWord := request true (slotIndex reg) value

/-- `rd <REG> -> <name>`: WDATA = 0 (30_encoding.md R69). -/
def rdReq (reg : SlotName) : RequestWord := request false (slotIndex reg) 0

/-- `decode` (30_encoding.md R70). -/
def pseudoDecode : List RequestWord := [wrReq .ctrl 0x00000001]

/-- `nop` (30_encoding.md R70). -/
def pseudoNop : List RequestWord := [wrReq .ctrl 0x00000000]

/-- `(b3<<24)|(b2<<16)|(b1<<8)|b0` (30_encoding.md R70). -/
def packBytes (b0 b1 b2 b3 : Byte) : Word :=
  zext32 b3 <<< 24 ||| zext32 b2 <<< 16 ||| zext32 b1 <<< 8 ||| zext32 b0

/-- `load b0,...,b7` (30_encoding.md R70). -/
def pseudoLoad (b0 b1 b2 b3 b4 b5 b6 b7 : Byte) : List RequestWord :=
  [wrReq .in0 (packBytes b0 b1 b2 b3), wrReq .in1 (packBytes b4 b5 b6 b7)]

/-- `setlen n`: the host writes min(n, 255) (30_encoding.md R70, 10_state.md R25). -/
def pseudoSetLen (n : Nat) : List RequestWord := [wrReq .len (BitVec.ofNat 32 (min n 255))]

/-- `setport p`, p in 0..255 (30_encoding.md R70). -/
def pseudoSetPort (p : Byte) : List RequestWord := [wrReq .port (zext32 p)]

/-- `decode8 b0,...,b7, n, p`, the source's `decode(bytes, port)` with `bytes.length = n` (30_encoding.md R70). -/
def pseudoDecode8 (b0 b1 b2 b3 b4 b5 b6 b7 : Byte) (n : Nat) (p : Byte) : List RequestWord :=
  pseudoLoad b0 b1 b2 b3 b4 b5 b6 b7 ++ pseudoSetLen n ++ pseudoSetPort p ++ pseudoDecode

/-- `readall` (30_encoding.md R70). -/
def pseudoReadAll : List RequestWord :=
  [rdReq .status, rdReq .humidity, rdReq .rawTemp, rdReq .temp, rdReq .wind, rdReq .devid]

/-- `decode8` for a payload: "the host writes 0 for bytes its payload lacks" (30_encoding.md R70), and bytes at
index 8 and above are not an input of the block (10_state.md R24). -/
def hostDecode (payload : List Byte) (p : Byte) : List RequestWord :=
  pseudoDecode8 (payload.getD 0 0) (payload.getD 1 0) (payload.getD 2 0) (payload.getD 3 0)
    (payload.getD 4 0) (payload.getD 5 0) (payload.getD 6 0) (payload.getD 7 0) payload.length p

end Sys2Proof.Machine
end

