-- ==== Sys2Proof/Safety.lean ====
section
/-! DEFINITION. The terms claims use: the invariant of 10_state.md R34, what a reading stands for
(41_decode.md R116, R117), the source's own `decode` (00_scope.md R2), and runs that stop nowhere. -/

namespace Sys2Proof.Machine

/-- The bits above the significant bits of 10_state.md R29 are 0 (TEMP apart, whose bits are all significant;
log 7). -/
structure Regs.ReservedZero (r : Regs) : Prop where
  len : r.len.toNat < 2 ^ 8
  port : r.port.toNat < 2 ^ 8
  status : r.status.toNat < 2 ^ 2
  humidity : r.humidity.toNat < 2 ^ 8
  rawTemp : r.rawTemp.toNat < 2 ^ 12
  wind : r.wind.toNat < 2 ^ 12

/-- The five output registers are 0. -/
structure Regs.OutputsZero (r : Regs) : Prop where
  humidity : r.humidity = 0
  rawTemp : r.rawTemp = 0
  temp : r.temp = 0
  wind : r.wind = 0
  devid : r.devid = 0

/-- The five output registers hold these fields, zero-extended (41_decode.md R110). -/
structure Regs.OutputsHold (r : Regs) (f : Fields) : Prop where
  humidity : r.humidity = zext32 f.humidity
  rawTemp : r.rawTemp = zext32 f.rawTemp
  temp : r.temp = f.temp
  wind : r.wind = zext32 f.wind
  devid : r.devid = f.devid

/-- Two register files agree on STATUS and the five output registers. -/
structure Regs.SameReading (r r' : Regs) : Prop where
  status : r'.status = r.status
  humidity : r'.humidity = r.humidity
  rawTemp : r'.rawTemp = r.rawTemp
  temp : r'.temp = r.temp
  wind : r'.wind = r.wind
  devid : r'.devid = r.devid

/-- Two register files agree on IN0, IN1, LEN and PORT. -/
structure Regs.SameInputs (r r' : Regs) : Prop where
  in0 : r'.in0 = r.in0
  in1 : r'.in1 = r.in1
  len : r'.len = r.len
  port : r'.port = r.port

/-- The state invariant: 10_state.md R34 (a), (b), (c), the reserved bits of R29, and reset values while reset
is asserted (70_reset_and_hazards.md R151). Clause (c) says that SOME inputs gave the reading; that they are the
last DECODE's is a statement about runs. -/
structure State.Inv (s : State) : Prop where
  reserved : s.regs.ReservedZero
  flags : s.regs.valid = true → s.regs.short = false
  cleared : s.regs.valid = false → s.regs.OutputsZero
  reading : s.regs.valid = true → ∃ in0 in1 : Word, s.regs.OutputsHold (decodeFields in0 in1)
  held : s.inReset = true → s.regs = Regs.reset

/-- The source's output record: humidity, temperature, windspeed, devid (00_scope.md R14). -/
structure Reading where
  humidity : Nat
  temperature : Rat
  windspeed : Rat
  devid : Nat
  deriving DecidableEq, Repr

/-- The source's one error (60_exceptions.md R130). -/
inductive SourceError where
  | payloadTooShort
  deriving DecidableEq, Repr

/-- The reading the output registers stand for, the numbers in tenths of 41_decode.md R116 and R117. -/
def Regs.reading (r : Regs) : Reading where
  humidity := r.humidity.toNat
  temperature := tenths (sint r.temp)
  windspeed := tenths r.wind.toNat
  devid := r.devid.toNat

/-- What STATUS and the outputs report of the last decode; none when STATUS is neither 0b01 nor 0b10
(10_state.md R28). -/
def Regs.report (r : Regs) : Option (Except SourceError Reading) :=
  if r.status = 1 then some (.ok r.reading)
  else if r.status = 2 then some (.error .payloadTooShort)
  else none

/-- The source's `rawTemp = ((bytes[2] & 0x0F) << 8) | bytes[1]` (41_decode.md R113). -/
def sourceRawTemp (b : Nat → Nat) : Nat := ((b 2 &&& 0x0F) <<< 8) ||| b 1

/-- The source's `rawWind = ((bytes[3] & 0xFF) << 4) | ((bytes[2] & 0xF0) >> 4)` (41_decode.md R114). -/
def sourceRawWind (b : Nat → Nat) : Nat := ((b 3 &&& 0xFF) <<< 4) ||| ((b 2 &&& 0xF0) >>> 4)

/-- The source's `devid = (bytes[7] << 24) | (bytes[6] << 16) | (bytes[5] << 8) | bytes[4]` (41_decode.md R115). -/
def sourceDevid (b : Nat → Nat) : Nat := (b 7 <<< 24) ||| (b 6 <<< 16) ||| (b 5 <<< 8) ||| b 4

/-- The source's `decode(bytes, port)`: its formulas on unsigned bytes, its error, and the port not inspected
(00_scope.md R2; 41_decode.md R112 to R117, R120, R121). -/
def sourceDecode (bytes : List Byte) (_port : Byte) : Except SourceError Reading :=
  if bytes.length < 8 then .error .payloadTooShort
  else
    let b := fun i => (bytes.getD i 0).toNat
    .ok { humidity := b 0
          temperature := ((sourceRawTemp b : Rat) - 500) / 10
          windspeed := (sourceRawWind b : Rat) / 10
          devid := sourceDevid b }

/-- The machine right after reset, with these events to come at the port. -/
def fromReset (events : List BusEvent) : State where
  regs := Regs.reset
  inReset := false
  rdata := none
  bus := events

/-- Every event still to come is a request word (30_encoding.md R66: such accesses never trap). -/
def State.OnlyRequests (s : State) : Prop := ∀ e ∈ s.bus, ∃ q, e = BusEvent.request q

/-- The run stops nowhere in its first k steps. -/
def RunsFor (k : Nat) (s : State) : Prop := ∃ t, Host.Core.run Sys2Proof.core k s = .next t

/-- The operation is DECODE. -/
def isDecode : Instr → Bool
  | .decode _ => true
  | .wrIn0 _ | .wrIn1 _ | .wrLen _ | .wrPort _ | .nop _ | .wrStatus _ | .wrHumidity _ | .wrRawTemp _ | .wrTemp _
  | .wrWind _ | .wrDevid _ | .wrUnmapped11 _ | .wrUnmapped12_15 _ _ | .rdIn0 _ | .rdIn1 _ | .rdLen _ | .rdPort _
  | .rdCtrl _ | .rdStatus _ | .rdHumidity _ | .rdRawTemp _ | .rdTemp _ | .rdWind _ | .rdDevid _ | .rdUnmapped11 _
  | .rdUnmapped12_15 _ _ => false

/-- The next step of the machine performs a DECODE. -/
def PerformsDecode (s : State) : Prop :=
  ∃ e rest q, s.bus = e :: rest ∧ arrive e { s with bus := rest } = .perform q ∧ isDecode (decode q) = true

/-- The inputs of the example that 40_register_access.md R100 to R105 and 41_decode.md R110 give. -/
def Regs.HasSpecExample (r : Regs) : Prop := r.in0 = 0x0310E805 ∧ r.in1 = 0x04030201 ∧ r.len = 0x00000008

/-- A DECODE with these IN0, IN1 and LEN, the rest as in s, completes, and its registers satisfy p. -/
def DecodeLeaves (reserved : BitVec 31) (s : State) (in0 in1 len : Word) (p : Regs → Prop) : Prop :=
  ∃ t, exec (.decode reserved) { s with regs := { s.regs with in0 := in0, in1 := in1, len := len } } = .next t ∧
    p t.regs

/-- The state with another value in PORT. -/
def State.withPort (s : State) (p : Word) : State := { s with regs := { s.regs with port := p } }

end Sys2Proof.Machine
end

