-- ==== Sys2Proof/Certificates/Slice0/Obligations.lean ====
section
/-! DEFINITION. The statements for the provers. Each docstring names the rule of spec/ it formalises; where a clause
rests on the model's own interface (the fields rdata, inReset and bus) it names the log entry. -/

open Sys2Proof Sys2Proof.Machine

/-! ## Reset, and the invariant -/

/-- 70_reset_and_hazards.md R150: reset puts every storage register to 0 at once, from any state, with the consequences
its table names; CTRL and the unmapped slots, which store nothing, read 0 as well. -/
def Obligations.ResetLeavesEveryRegisterZero : Prop :=
  State.reset.regs =
    { in0 := 0, in1 := 0, len := 0, port := 0, status := 0, humidity := 0, rawTemp := 0, temp := 0, wind := 0,
      devid := 0 } ∧
  (∀ s : State, s.assertReset.regs = State.reset.regs) ∧
  (∀ i, i < 8 → State.reset.regs.payloadByte i = 0) ∧
  (∀ wa, State.reset.regs.slotValue wa = 0) ∧
  State.reset.regs.valid = false ∧ State.reset.regs.short = false ∧
  ∀ reserved, exec (.decode reserved) State.reset =
    .next { State.reset with regs := { State.reset.regs with status := 2 }, rdata := none }

/-- 70_reset_and_hazards.md R150, R151 in the model's form (log 4): asserting reset puts the registers to their reset
values in one step from any state, releasing it changes no register. -/
def Obligations.AssertingResetClearsEveryRegister : Prop :=
  (∀ (s : State) rest, s.bus = .assertReset :: rest →
    step s = .next { regs := State.reset.regs, inReset := true, rdata := none, bus := rest }) ∧
  (∀ (s : State) rest, s.bus = .releaseReset :: rest →
    step s = .next { regs := s.regs, inReset := false, rdata := none, bus := rest })

/-- 70_reset_and_hazards.md R151: "While reset is asserted the block performs no access"; stuck by
93_implementation_defined.md I6 (log 4). -/
def Obligations.AccessDuringResetIsStuck : Prop :=
  ∀ (s : State) q rest, s.inReset = true → s.bus = .request q :: rest → step s = .fault .accessDuringReset

/-- The invariant holds after reset (10_state.md R34). -/
def Obligations.ResetStateMeetsTheInvariant : Prop := State.reset.Inv

/-- From every state that meets the invariant, reached or not, a step keeps it: 10_state.md R34 (a), (b) and the
existence half of (c), and the reserved bits of R29. -/
def Obligations.EveryStepKeepsTheInvariant : Prop :=
  ∀ s t : State, s.Inv → step s = .next t → t.Inv

/-- 10_state.md R34, whole, which the spec marks as its own inference from R28, R29, R110 and R150: over any bus events
at all from reset, (a), (b), and (c) with the inputs that the last
DECODE performed found in IN0 and IN1. -/
def Obligations.ReadingIsOfTheLastDecodePerformed : Prop :=
  ∀ (events : List BusEvent) (k : Nat) (t : State),
    Host.Core.run core k (fromReset events) = .next t →
    (t.regs.valid = true → t.regs.short = false) ∧
    (t.regs.valid = false → t.regs.OutputsZero) ∧
    (t.regs.valid = true → ∃ (j : Nat) (u : State), j < k ∧
      Host.Core.run core j (fromReset events) = .next u ∧ PerformsDecode u ∧
      (∀ (j' : Nat) (u' : State), j < j' → j' < k →
        Host.Core.run core j' (fromReset events) = .next u' → ¬ PerformsDecode u') ∧
      t.regs.OutputsHold (decodeFields u.regs.in0 u.regs.in1))

/-! ## The port and the encoding -/

/-- A request at the port runs as the operation it decodes to, once it is taken off the list (20_memory.md R50; log 1);
with nothing pending the machine holds its state (60_exceptions.md R142; log 3). -/
def Obligations.StepRunsTheDecodedRequest : Prop :=
  (∀ (s : State) q rest, s.inReset = false → s.bus = .request q :: rest →
    step s = exec (decode q) { s with bus := rest }) ∧
  (∀ s : State, s.bus = [] → step s = .next s)

/-- A word of spec/opcode_table.json is decoded and run as one and the same operation (log 8). -/
def Obligations.TableWordRunsAsItDecodes : Prop :=
  ∀ (s : State) (w : Nat), w < 2 ^ 37 →
    ∃ i, decodeTableWord 40 w = some i ∧ step (s.withFetchWord 40 w) = exec i { s with inReset := false }

/-- 20_memory.md R41: a word access in the window acts as the request whose WA is the word offset from PUNPK_BASE. -/
def Obligations.HostWordAccessIsTheRequestOfItsSlot : Prop :=
  ∀ (s : State) (a : HostAccess) rest, a.bytes = 4 → a.addr % 4 = 0 →
    Config.punpkBase ≤ a.addr → a.addr ≤ Config.punpkBase + 0x3F →
    step { s with bus := .access a :: rest } =
      step { s with bus := .request (request a.write (BitVec.ofNat 4 ((a.addr - Config.punpkBase) / 4))
        (if a.write then a.data else 0)) :: rest }

/-- 20_memory.md R45: in the window, an access of another width, or at an address that is no multiple of 4, is
refused. -/
def Obligations.OtherWidthsAndMisalignedAccessesAreRefused : Prop :=
  ∀ (s : State) (a : HostAccess) rest, s.bus = .access a :: rest →
    Config.punpkBase ≤ a.addr → a.addr ≤ Config.punpkBase + 0x3F → (a.bytes ≠ 4 ∨ a.addr % 4 ≠ 0) →
    step s = .refused (.notAWordAccess a.addr a.bytes)

/-- Decoding what is encoded gives it back, with every operand and ignored bit (30_encoding.md R60 to R62). -/
def Obligations.DecodeInvertsEncode : Prop :=
  ∀ i : Instr, i.wellFormed = true → decode (encode i) = i

/-- Every request word decodes to a well-formed operation whose word it is (30_encoding.md R61, R66). -/
def Obligations.EncodeInvertsDecode : Prop :=
  ∀ q : RequestWord, (decode q).wellFormed = true ∧ encode (decode q) = q

/-- 30_encoding.md R61: every request word selects exactly one of the 27 rows, the row of the operation it
decodes to; the match and mask of each row are those of 40_register_access.md R82 to R107 and 41_decode.md R110. -/
def Obligations.EveryWordSelectsExactlyItsRow : Prop :=
  opcodeTable.length = 27 ∧
  ∀ q : RequestWord, ∃ r ∈ opcodeTable, r.selectedBy q = true ∧ r.mnemonic = (decode q).mnemonic ∧
    ∀ r' ∈ opcodeTable, r'.selectedBy q = true → r' = r

/-- 30_encoding.md R62: WDATA[0] selects at CTRL, and WDATA[31:1] takes no part. -/
def Obligations.CtrlWriteIsSelectedByItsLowBit : Prop :=
  ∀ d : Word,
    (d.getLsbD 0 = true → decode (request true 4 d) = .decode (d.extractLsb' 1 31)) ∧
    (d.getLsbD 0 = false → decode (request true 4 d) = .nop (d.extractLsb' 1 31))

/-- 30_encoding.md R71, which the spec marks as its own inference from R60: the ten encoding examples, from the host
notation of R69 and R70, and the formula of R60 that they rest on, for every request. -/
def Obligations.SpecEncodingExamples : Prop :=
  (∀ (we : Bool) (wa : BitVec 4) (d : Word),
    (request we wa d).toNat = (if we then 1 else 0) * 2 ^ 36 + wa.toNat * 2 ^ 32 + d.toNat) ∧
  wrReq .in0 0x0310E805 = 0x100310E805 ∧ wrReq .in1 0x04030201 = 0x1104030201 ∧
  wrReq .len 0x00000008 = 0x1200000008 ∧ wrReq .port 0x00000001 = 0x1300000001 ∧
  pseudoDecode = [0x1400000001] ∧ pseudoNop = [0x1400000000] ∧
  rdReq .status = 0x0500000000 ∧ rdReq .temp = 0x0800000000 ∧
  rdReq .devid = 0x0A00000000 ∧ rdReq .slot15 = 0x0F00000000

/-- Words written out from the encodings of 95_test_vectors.md section 2.3 decode to what it names. -/
def Obligations.SpecDecodingVectors : Prop :=
  decode 0x100003E82A = .wrIn0 0x0003E82A ∧ decode 0x1180000000 = .wrIn1 0x80000000 ∧
  decode 0x1200000108 = .wrLen 0x00000108 ∧ decode 0x1400000001 = .decode 0 ∧
  decode 0x14FFFFFFFF = .decode 0x7FFFFFFF ∧ decode 0x14FFFFFFFE = .nop 0x7FFFFFFF ∧
  decode 0x1500000003 = .wrStatus 3 ∧ decode 0x1B00000000 = .wrUnmapped11 0 ∧
  decode 0x1F12345678 = .wrUnmapped12_15 15 0x12345678 ∧ decode 0x05FFFFFFFF = .rdStatus 0xFFFFFFFF ∧
  decode 0x0C00000000 = .rdUnmapped12_15 12 0

/-- 30_encoding.md R65: reserved WDATA bits of WR.LEN, WR.PORT and CTRL writes have no effect. -/
def Obligations.ReservedWriteBitsHaveNoEffect : Prop :=
  ∀ (q q' : RequestWord) (s : State), reqWE q = true → reqWE q' = true → reqWA q' = reqWA q →
    ((reqWA q = 2 ∨ reqWA q = 3) ∧ (reqWDATA q).toNat % 256 = (reqWDATA q').toNat % 256 ∨
      reqWA q = 4 ∧ (reqWDATA q).getLsbD 0 = (reqWDATA q').getLsbD 0) →
    exec (decode q) s = exec (decode q') s ∧ ∃ t, exec (decode q) s = .next t

/-- 30_encoding.md R66: no request word traps, faults or is refused; what is refused in the window is an access of
another width or at a misaligned address. -/
def Obligations.NoRequestWordIsIllegal : Prop :=
  (∀ (q : RequestWord) (s : State), ∃ t, exec (decode q) s = .next t) ∧
  (∀ (s : State) q rest r, s.bus = .request q :: rest → step s ≠ .refused r) ∧
  (∀ (s : State) (a : HostAccess) rest r, s.bus = .access a :: rest →
    Config.punpkBase ≤ a.addr → a.addr ≤ Config.punpkBase + 0x3F → step s = .refused r → (a.bytes ≠ 4 ∨ a.addr % 4 ≠ 0))

/-- A run out of reset whose events are request words stops nowhere (30_encoding.md R66, 60_exceptions.md R131). -/
def Obligations.RequestRunsNeverStop : Prop :=
  ∀ (k : Nat) (s : State), s.inReset = false → s.OnlyRequests → RunsFor k s

/-- 30_encoding.md R67: NOP, and every write at WA 5 to 15, change no state (the answer is none, as after any
write: log 2). -/
def Obligations.NoOpRequestsChangeNoState : Prop :=
  ∀ (q : RequestWord) (s : State), reqWE q = true →
    (reqWA q = 4 ∧ (reqWDATA q).getLsbD 0 = false ∨ 5 ≤ (reqWA q).toNat) →
    exec (decode q) s = .next { s with rdata := none }

/-! ## Writes -/

/-- 40_register_access.md R82: WR.IN0 takes all 32 bits into IN0, as bytes 0 to 3, and changes nothing else. -/
def Obligations.WrIn0LoadsPayloadBytesZeroToThree : Prop :=
  (∀ q : RequestWord, q &&& 0x1F00000000 = 0x1000000000 ↔ decode q = .wrIn0 (reqWDATA q)) ∧
  (∀ (wdata : Word) (s : State), ∃ t, exec (.wrIn0 wdata) s = .next t ∧
    t = { s with regs := { s.regs with in0 := wdata }, rdata := none } ∧
    (∀ i, i < 4 → (t.regs.payloadByte i).toNat = wdata.toNat / 2 ^ (8 * i) % 256) ∧
    s.regs.SameReading t.regs) ∧
  (∀ s : State, ∃ t, exec (.wrIn0 0x0310E805) s = .next t ∧ t.regs.in0 = 0x0310E805 ∧
    t.regs.payloadByte 0 = 0x05 ∧ t.regs.payloadByte 1 = 0xE8 ∧ t.regs.payloadByte 2 = 0x10 ∧
    t.regs.payloadByte 3 = 0x03)

/-- 40_register_access.md R83: WR.IN1 takes all 32 bits into IN1, as bytes 4 to 7, and changes nothing else; a byte 7
of 0x80 or more gives a devid of at least 0x80000000, unsigned. -/
def Obligations.WrIn1LoadsPayloadBytesFourToSeven : Prop :=
  (∀ q : RequestWord, q &&& 0x1F00000000 = 0x1100000000 ↔ decode q = .wrIn1 (reqWDATA q)) ∧
  (∀ (wdata : Word) (s : State), ∃ t, exec (.wrIn1 wdata) s = .next t ∧
    t = { s with regs := { s.regs with in1 := wdata }, rdata := none } ∧
    (∀ i, i < 4 → (t.regs.payloadByte (4 + i)).toNat = wdata.toNat / 2 ^ (8 * i) % 256) ∧
    s.regs.SameReading t.regs ∧
    (0x80 ≤ (t.regs.payloadByte 7).toNat → 0x80000000 ≤ (decodeFields t.regs.in0 t.regs.in1).devid.toNat)) ∧
  (∀ s : State, ∃ t, exec (.wrIn1 0x04030201) s = .next t ∧
    t.regs.payloadByte 4 = 0x01 ∧ t.regs.payloadByte 5 = 0x02 ∧ t.regs.payloadByte 6 = 0x03 ∧
    t.regs.payloadByte 7 = 0x04)

/-- 40_register_access.md R84: WR.LEN stores WDATA[7:0], zero-extended, and changes nothing else. -/
def Obligations.WrLenStoresTheLowByte : Prop :=
  (∀ q : RequestWord, q &&& 0x1F00000000 = 0x1200000000 ↔ decode q = .wrLen (reqWDATA q)) ∧
  (∀ (wdata : Word) (s : State), ∃ t, exec (.wrLen wdata) s = .next t ∧
    t = { s with regs := { s.regs with len := wdata &&& 0xFF }, rdata := none } ∧
    t.regs.len.toNat = wdata.toNat % 256) ∧
  (∀ s : State, exec (.wrLen 0x00000108) s = .next { s with regs := { s.regs with len := 0x08 }, rdata := none } ∧
    exec (.wrLen 0x00000008) s = .next { s with regs := { s.regs with len := 0x00000008 }, rdata := none })

/-- 40_register_access.md R85: WR.PORT stores WDATA[7:0], zero-extended, changes nothing else, and no output of a
later DECODE depends on it. -/
def Obligations.WrPortStoresTheLowByte : Prop :=
  (∀ q : RequestWord, q &&& 0x1F00000000 = 0x1300000000 ↔ decode q = .wrPort (reqWDATA q)) ∧
  (∀ (wdata : Word) (s : State), ∃ t, exec (.wrPort wdata) s = .next t ∧
    t = { s with regs := { s.regs with port := wdata &&& 0xFF }, rdata := none } ∧
    t.regs.port.toNat = wdata.toNat % 256 ∧
    ∀ reserved, ∃ u v, exec (.decode reserved) s = .next u ∧ exec (.decode reserved) t = .next v ∧
      u.regs.SameReading v.regs) ∧
  (∀ s : State, exec (.wrPort 0x00000001) s =
    .next { s with regs := { s.regs with port := 0x00000001 }, rdata := none })

/-- 40_register_access.md R86: NOP is skip, whatever its reserved bits. -/
def Obligations.NopChangesNothing : Prop :=
  (∀ q : RequestWord, q &&& 0x1F00000001 = 0x1400000000 ↔ decode q = .nop (q.extractLsb' 1 31)) ∧
  (∀ (reserved : BitVec 31) (s : State), exec (.nop reserved) s = .next { s with rdata := none }) ∧
  decode (wrReq .ctrl 0xFFFFFFFE) = .nop 0x7FFFFFFF ∧ pseudoNop.map decode = [.nop 0]

/-- 40_register_access.md R87 to R94: writes to the read-only registers and the unmapped slots are skip. -/
def Obligations.WritesToReadOnlyAndUnmappedSlotsAreIgnored : Prop :=
  (∀ q : RequestWord,
    (q &&& 0x1F00000000 = 0x1500000000 ↔ decode q = .wrStatus (reqWDATA q)) ∧
    (q &&& 0x1F00000000 = 0x1600000000 ↔ decode q = .wrHumidity (reqWDATA q)) ∧
    (q &&& 0x1F00000000 = 0x1700000000 ↔ decode q = .wrRawTemp (reqWDATA q)) ∧
    (q &&& 0x1F00000000 = 0x1800000000 ↔ decode q = .wrTemp (reqWDATA q)) ∧
    (q &&& 0x1F00000000 = 0x1900000000 ↔ decode q = .wrWind (reqWDATA q)) ∧
    (q &&& 0x1F00000000 = 0x1A00000000 ↔ decode q = .wrDevid (reqWDATA q)) ∧
    (q &&& 0x1F00000000 = 0x1B00000000 ↔ decode q = .wrUnmapped11 (reqWDATA q)) ∧
    (q &&& 0x1C00000000 = 0x1C00000000 ↔ decode q = .wrUnmapped12_15 (reqWA q) (reqWDATA q))) ∧
  (∀ (wdata : Word) (wa : BitVec 4) (s : State),
    exec (.wrStatus wdata) s = .next { s with rdata := none } ∧
    exec (.wrHumidity wdata) s = .next { s with rdata := none } ∧
    exec (.wrRawTemp wdata) s = .next { s with rdata := none } ∧
    exec (.wrTemp wdata) s = .next { s with rdata := none } ∧
    exec (.wrWind wdata) s = .next { s with rdata := none } ∧
    exec (.wrDevid wdata) s = .next { s with rdata := none } ∧
    exec (.wrUnmapped11 wdata) s = .next { s with rdata := none } ∧
    exec (.wrUnmapped12_15 wa wdata) s = .next { s with rdata := none }) ∧
  (∀ (i : Instr) (s t : State), exec i s = .next t → isDecode i = false → t.regs.devid = s.regs.devid)

/-- A write other than DECODE completes, writes no STATUS bit, gives no answer, and leaves every slot but its own as it
was (40_register_access.md R80). -/
def Obligations.WritesTouchOnlyTheirOwnSlot : Prop :=
  ∀ (q : RequestWord) (s : State), reqWE q = true → isDecode (decode q) = false →
    ∃ t, exec (decode q) s = .next t ∧ t.rdata = none ∧ t.bus = s.bus ∧ t.inReset = s.inReset ∧
      t.regs.status = s.regs.status ∧ ∀ wa, wa ≠ reqWA q → t.regs.slotValue wa = s.regs.slotValue wa

/-- 10_state.md R36 for one access: a write to an input register changes no output register and no STATUS bit, and a
DECODE changes no input register (41_decode.md R110). -/
def Obligations.InputsAndReadingAreIndependent : Prop :=
  ∀ (i : Instr) (s t : State), exec i s = .next t →
    (isDecode i = false → s.regs.SameReading t.regs) ∧ (isDecode i = true → s.regs.SameInputs t.regs)

/-! ## Reads -/

/-- Every read answers the value of its slot in the address map and changes nothing else (20_memory.md R47, R48;
40_register_access.md R81). -/
def Obligations.EveryReadAnswersItsSlot : Prop :=
  ∀ (q : RequestWord) (s : State), reqWE q = false →
    exec (decode q) s = .next { s with rdata := some (s.regs.slotValue (reqWA q)) }

/-- 40_register_access.md R95 to R98: the input registers read back. -/
def Obligations.InputRegistersReadBack : Prop :=
  (∀ q : RequestWord,
    (q &&& 0x1F00000000 = 0x0000000000 ↔ decode q = .rdIn0 (reqWDATA q)) ∧
    (q &&& 0x1F00000000 = 0x0100000000 ↔ decode q = .rdIn1 (reqWDATA q)) ∧
    (q &&& 0x1F00000000 = 0x0200000000 ↔ decode q = .rdLen (reqWDATA q)) ∧
    (q &&& 0x1F00000000 = 0x0300000000 ↔ decode q = .rdPort (reqWDATA q))) ∧
  (∀ (w : Word) (s : State),
    exec (.rdIn0 w) s = .next { s with rdata := some s.regs.in0 } ∧
    exec (.rdIn1 w) s = .next { s with rdata := some s.regs.in1 } ∧
    exec (.rdLen w) s = .next { s with rdata := some s.regs.len } ∧
    exec (.rdPort w) s = .next { s with rdata := some s.regs.port } ∧
    (s.Inv → s.regs.len.extractLsb' 8 24 = 0 ∧ s.regs.port.extractLsb' 8 24 = 0)) ∧
  (∀ (w d : Word) (s : State),
    (∃ t, exec (.wrIn0 d) s = .next t ∧ exec (.rdIn0 w) t = .next { t with rdata := some d }) ∧
    (∃ t, exec (.wrIn1 d) s = .next t ∧ exec (.rdIn1 w) t = .next { t with rdata := some d }) ∧
    (∃ t, exec (.wrLen 0x00000108) s = .next t ∧ exec (.rdLen w) t = .next { t with rdata := some 0x00000008 }) ∧
    (∃ t, exec (.wrLen 0x00000008) s = .next t ∧ exec (.rdLen w) t = .next { t with rdata := some 0x00000008 }) ∧
    (∃ t, exec (.wrPort 0x000000CC) s = .next t ∧ exec (.rdPort w) t = .next { t with rdata := some 0x000000CC }) ∧
    exec (.rdIn0 w) State.reset = .next { State.reset with rdata := some 0 } ∧
    (∀ reserved, ∃ t, exec (.decode reserved) s = .next t ∧ t.regs.in0 = s.regs.in0 ∧ t.regs.in1 = s.regs.in1)) ∧
  (∀ (i : Instr) (s t : State) (p : Word), (∀ w, i ≠ .rdPort w) → exec i s = .next t →
    ∃ p', exec i (s.withPort p) = .next (t.withPort p'))

/-- 40_register_access.md R99, R106, R107: CTRL and the unmapped slots read 0 in every state. -/
def Obligations.CtrlAndUnmappedSlotsReadZero : Prop :=
  (∀ q : RequestWord,
    (q &&& 0x1F00000000 = 0x0400000000 ↔ decode q = .rdCtrl (reqWDATA q)) ∧
    (q &&& 0x1F00000000 = 0x0B00000000 ↔ decode q = .rdUnmapped11 (reqWDATA q)) ∧
    (q &&& 0x1C00000000 = 0x0C00000000 ↔ decode q = .rdUnmapped12_15 (reqWA q) (reqWDATA q))) ∧
  (∀ (w : Word) (wa : BitVec 4) (s : State),
    exec (.rdCtrl w) s = .next { s with rdata := some 0x00000000 } ∧
    exec (.rdUnmapped11 w) s = .next { s with rdata := some 0x00000000 } ∧
    exec (.rdUnmapped12_15 wa w) s = .next { s with rdata := some 0x00000000 })

/-- 40_register_access.md R100: RD.STATUS answers STATUS and clears nothing; 0 after reset and before any decode, then 1
or 2 as the last decode ended, never 3. What it returns after a decode the spec marks as its own inference from R28 and
R110. -/
def Obligations.RdStatusAnswersTheFlags : Prop :=
  (∀ q : RequestWord, q &&& 0x1F00000000 = 0x0500000000 ↔ decode q = .rdStatus (reqWDATA q)) ∧
  (∀ (w : Word) (s : State), exec (.rdStatus w) s = .next { s with rdata := some s.regs.status } ∧
    (s.Inv → s.regs.status.extractLsb' 2 30 = 0 ∧ s.regs.status ≠ 3)) ∧
  (∀ w : Word, exec (.rdStatus w) State.reset = .next { State.reset with rdata := some 0x00000000 }) ∧
  (∀ (reserved : BitVec 31) (w : Word) (s : State), ∃ t, exec (.decode reserved) s = .next t ∧
    exec (.rdStatus w) t =
      .next { t with rdata := some (if s.regs.len.toNat % 256 < 8 then 0x00000002 else 0x00000001) }) ∧
  (∀ (reserved : BitVec 31) (w : Word) (s : State), s.regs.HasSpecExample → ∃ t, exec (.decode reserved) s = .next t ∧
    exec (.rdStatus w) t = .next { t with rdata := some 0x00000001 })

/-- 40_register_access.md R101 to R105: the output registers are answered, 0 while VALID is 0, with their reserved bits
0; and R100's example. -/
def Obligations.OutputRegistersAreAnswered : Prop :=
  (∀ q : RequestWord,
    (q &&& 0x1F00000000 = 0x0600000000 ↔ decode q = .rdHumidity (reqWDATA q)) ∧
    (q &&& 0x1F00000000 = 0x0700000000 ↔ decode q = .rdRawTemp (reqWDATA q)) ∧
    (q &&& 0x1F00000000 = 0x0800000000 ↔ decode q = .rdTemp (reqWDATA q)) ∧
    (q &&& 0x1F00000000 = 0x0900000000 ↔ decode q = .rdWind (reqWDATA q)) ∧
    (q &&& 0x1F00000000 = 0x0A00000000 ↔ decode q = .rdDevid (reqWDATA q))) ∧
  (∀ (w : Word) (s : State),
    exec (.rdHumidity w) s = .next { s with rdata := some s.regs.humidity } ∧
    exec (.rdRawTemp w) s = .next { s with rdata := some s.regs.rawTemp } ∧
    exec (.rdTemp w) s = .next { s with rdata := some s.regs.temp } ∧
    exec (.rdWind w) s = .next { s with rdata := some s.regs.wind } ∧
    exec (.rdDevid w) s = .next { s with rdata := some s.regs.devid }) ∧
  (∀ s : State, s.Inv →
    s.regs.humidity.extractLsb' 8 24 = 0 ∧ s.regs.rawTemp.extractLsb' 12 20 = 0 ∧ s.regs.wind.extractLsb' 12 20 = 0 ∧
    (s.regs.valid = true → sint s.regs.temp = (s.regs.rawTemp.toNat : Int) - 500) ∧
    (s.regs.valid = false →
      s.regs.humidity = 0 ∧ s.regs.rawTemp = 0 ∧ s.regs.temp = 0 ∧ s.regs.wind = 0 ∧ s.regs.devid = 0)) ∧
  (∀ (reserved : BitVec 31) (s : State), s.regs.HasSpecExample → ∃ t, exec (.decode reserved) s = .next t ∧
    t.regs.humidity = 0x00000005 ∧ t.regs.rawTemp = 0x000000E8 ∧ t.regs.temp = 0xFFFFFEF4 ∧ sint t.regs.temp = -268 ∧
    t.regs.wind = 0x00000031 ∧ t.regs.devid = 0x04030201)

/-- 20_memory.md R47, whose last sentence the spec marks as its own inference from R110: no read has a side effect,
the one write with an effect beyond its own register is DECODE, and a DECODE after another with no input write
between, whatever other requests come between, leaves the same registers as one. -/
def Obligations.ReadsAndRepeatedDecodesAreIdempotent : Prop :=
  (∀ (q : RequestWord) (s : State), reqWE q = false →
    ∃ t, exec (decode q) s = .next t ∧ t.regs = s.regs ∧ exec (decode q) t = .next t) ∧
  (∀ (q : RequestWord) (s : State), reqWE q = true → isDecode (decode q) = false →
    ∃ t, exec (decode q) s = .next t ∧ ∀ wa, wa ≠ reqWA q → t.regs.slotValue wa = s.regs.slotValue wa) ∧
  (∀ (s : State) (d d' : Word) (qs : List RequestWord) rest, s.inReset = false →
    d.getLsbD 0 = true → d'.getLsbD 0 = true → (∀ q ∈ qs, reqWE q = true → 4 ≤ (reqWA q).toNat) →
    s.bus = .request (wrReq .ctrl d) :: (qs.map .request ++ .request (wrReq .ctrl d') :: rest) →
    ∃ u t, Host.Core.run core 1 s = .next u ∧ Host.Core.run core (qs.length + 2) s = .next t ∧
      t.regs = u.regs ∧ t.bus = rest)

/-! ## DECODE and its datapath -/

/-- 41_decode.md R110: the encoding, the length check, both outcomes with every register, and the example. -/
def Obligations.DecodeReportsTooShortOrLatchesTheReading : Prop :=
  (∀ q : RequestWord, q &&& 0x1F00000001 = 0x1400000001 ↔ decode q = .decode (q.extractLsb' 1 31)) ∧
  (∀ (reserved : BitVec 31) (s : State), exec (.decode reserved) s = .next
    { s with
      rdata := none
      regs :=
        if (s.regs.len.extractLsb' 0 8).toNat < 8 then
          { s.regs with
            humidity := 0x00000000, rawTemp := 0x00000000, temp := 0x00000000, wind := 0x00000000, devid := 0x00000000
            status := 0x00000002 }
        else
          { s.regs with
            humidity := zext32 (decodeFields s.regs.in0 s.regs.in1).humidity
            rawTemp := zext32 (decodeFields s.regs.in0 s.regs.in1).rawTemp
            temp := (decodeFields s.regs.in0 s.regs.in1).temp
            wind := zext32 (decodeFields s.regs.in0 s.regs.in1).wind
            devid := (decodeFields s.regs.in0 s.regs.in1).devid
            status := 0x00000001 } }) ∧
  (∀ (reserved : BitVec 31) (s : State), s.regs.HasSpecExample → exec (.decode reserved) s = .next
    { s with
      rdata := none
      regs := { s.regs with
        status := 0x1, humidity := 0x05, rawTemp := 0x0E8, temp := 0xFFFFFEF4, wind := 0x031, devid := 0x04030201 } })

/-- 41_decode.md R120: the check reads only LEN[7:0], fails for 0 and 7, passes for 8; a failing decode clears the five
outputs and sets VALID = 0, SHORT = 1 whatever IN0 and IN1 hold, and one that passes gives a reading of whatever
they hold. -/
def Obligations.ShortPayloadProducesNoReading : Prop :=
  (∀ (reserved : BitVec 31) (s : State), ∃ t, exec (.decode reserved) s = .next t ∧
    (s.regs.len.toNat % 256 < 8 → t.regs.OutputsZero ∧ t.regs.valid = false ∧ t.regs.short = true) ∧
    (8 ≤ s.regs.len.toNat % 256 → t.regs.OutputsHold (decodeFields s.regs.in0 s.regs.in1) ∧
      t.regs.valid = true ∧ t.regs.short = false)) ∧
  (∀ (reserved : BitVec 31) (in0 in1 : Word) (s : State),
    (∃ t, exec (.decode reserved) { s with regs := { s.regs with in0 := in0, in1 := in1, len := 7 } } = .next t ∧
      t.regs.short = true) ∧
    (∃ t, exec (.decode reserved) { s with regs := { s.regs with in0 := in0, in1 := in1, len := 8 } } = .next t ∧
      t.regs.valid = true) ∧
    (∃ t, exec (.decode reserved) { s with regs := { s.regs with in0 := in0, in1 := in1, len := 0 } } = .next t ∧
      t.regs.short = true))

/-- 41_decode.md R112 to R114, and the formula of R115: the fields are the source's own formulas on the payload bytes as
unsigned numbers. (That devid is IN1 the spec infers: it stands in FieldsAreContiguousSlices.) -/
def Obligations.FieldsAreTheSourceFormulas : Prop :=
  ∀ r : Regs,
    let b := fun i => (r.payloadByte i).toNat
    let f := decodeFields r.in0 r.in1
    f.humidity.toNat = b 0 ∧ f.rawTemp.toNat = sourceRawTemp b ∧ f.wind.toNat = sourceRawWind b ∧
    f.devid.toNat = sourceDevid b

/-- 41_decode.md R118 and the last sentence of R115, which the spec marks as its own inference from R22 and R112 to
R115: the fields are contiguous slices of IN0 and IN1. -/
def Obligations.FieldsAreContiguousSlices : Prop :=
  ∀ in0 in1 : Word,
    (decodeFields in0 in1).humidity = in0.extractLsb' 0 8 ∧ (decodeFields in0 in1).rawTemp = in0.extractLsb' 8 12 ∧
    (decodeFields in0 in1).wind = in0.extractLsb' 20 12 ∧ (decodeFields in0 in1).devid = in1

/-- 41_decode.md R116: TEMP is the exact integer rawTemp - 500, and stands for that many tenths, -50.0..359.5. -/
def Obligations.TemperatureIsTheExactOffsetInTenths : Prop :=
  ∀ (reserved : BitVec 31) (s : State), 8 ≤ s.regs.len.toNat % 256 → ∃ t, exec (.decode reserved) s = .next t ∧
    sint t.regs.temp = (sourceRawTemp (fun i => (s.regs.payloadByte i).toNat) : Int) - 500 ∧
    t.regs.reading.temperature = ((sourceRawTemp (fun i => (s.regs.payloadByte i).toNat) : Rat) - 500) / 10 ∧
    -50 ≤ t.regs.reading.temperature ∧ t.regs.reading.temperature ≤ 3595 / 10

/-- 41_decode.md R122, which the spec marks as its own inference from R113 to R116: TEMP[31:13] are copies of
TEMP[12], and rawTemp - 500 fits 13 bits of two's complement. -/
def Obligations.TemperatureFitsThirteenBits : Prop :=
  ∀ in0 in1 : Word,
    let f := decodeFields in0 in1
    (∀ k, 13 ≤ k → k < 32 → f.temp.getLsbD k = f.temp.getLsbD 12) ∧
    -500 ≤ sint f.temp ∧ sint f.temp ≤ 3595 ∧ (f.temp.extractLsb' 0 13).toInt = sint f.temp

/-- 41_decode.md R117: WIND is rawWind itself, and the windspeed that many tenths, 0.0..409.5. -/
def Obligations.WindspeedIsRawWindInTenths : Prop :=
  ∀ (reserved : BitVec 31) (s : State), 8 ≤ s.regs.len.toNat % 256 → ∃ t, exec (.decode reserved) s = .next t ∧
    t.regs.wind.toNat = sourceRawWind (fun i => (s.regs.payloadByte i).toNat) ∧
    t.regs.reading.windspeed = (sourceRawWind (fun i => (s.regs.payloadByte i).toNat) : Rat) / 10 ∧
    0 ≤ t.regs.reading.windspeed ∧ t.regs.reading.windspeed ≤ 4095 / 10

/-- 41_decode.md R119, which the spec marks as its own inference from R113 and R114: byte 2's high nibble moves
windspeed by one tenth a unit and nothing in temperature, its low nibble moves temperature by 256 tenths a unit and
nothing in windspeed, byte 3 feeds windspeed only and byte 1 temperature only. -/
def Obligations.NibblesFeedOneFieldEach : Prop :=
  ∀ (b0 b1 b2 b3 c : Byte) (in1 : Word),
    let f := fun (x1 x2 x3 : Byte) => decodeFields (x3 ++ x2 ++ x1 ++ b0) in1
    (c.extractLsb' 0 4 = b2.extractLsb' 0 4 →
      (f b1 c b3).temp = (f b1 b2 b3).temp ∧
      ((f b1 c b3).wind.toNat : Int) - (f b1 b2 b3).wind.toNat = (c.extractLsb' 4 4).toNat -
        (b2.extractLsb' 4 4).toNat) ∧
    (c.extractLsb' 4 4 = b2.extractLsb' 4 4 →
      (f b1 c b3).wind = (f b1 b2 b3).wind ∧
      sint (f b1 c b3).temp - sint (f b1 b2 b3).temp = 256 * ((c.extractLsb' 0 4).toNat - (b2.extractLsb' 0 4).toNat)) ∧
    (f b1 b2 c).temp = (f b1 b2 b3).temp ∧ (f c b2 b3).wind = (f b1 b2 b3).wind

/-- 41_decode.md R121: DECODE gives the same state for any two values of PORT, PORT itself apart. -/
def Obligations.DecodeIgnoresThePort : Prop :=
  ∀ (reserved : BitVec 31) (s : State) (p p' : Word),
    ∃ t : State, exec (.decode reserved) (s.withPort p) = .next (t.withPort p) ∧
      exec (.decode reserved) (s.withPort p') = .next (t.withPort p')

/-- Over any run, whatever its events, PORT never reaches another register, the reset input or the pending events, and
never decides whether the run stops (10_state.md R26, 41_decode.md R121). -/
def Obligations.PortNeverReachesAnythingElse : Prop :=
  ∀ (k : Nat) (s : State) (p : Word),
    (∀ t, Host.Core.run core k s = .next t → ∃ t' p', Host.Core.run core k (s.withPort p) = .next t' ∧
      t'.regs = { t.regs with port := p' } ∧ t'.inReset = t.inReset ∧ t'.bus = t.bus) ∧
    (∀ r, Host.Core.run core k s = .fault r → Host.Core.run core k (s.withPort p) = .fault r) ∧
    (∀ r, Host.Core.run core k s = .refused r → Host.Core.run core k (s.withPort p) = .refused r)

/-- 41_decode.md R123, which the spec marks as its own inference from R110, R111 and R120: equal IN0, IN1 and LEN give
equal STATUS and outputs, whatever the states before. -/
def Obligations.DecodeDependsOnItsInputsAlone : Prop :=
  ∀ (x x' : BitVec 31) (s s' : State),
    s'.regs.in0 = s.regs.in0 → s'.regs.in1 = s.regs.in1 → s'.regs.len = s.regs.len →
    ∃ t t', exec (.decode x) s = .next t ∧ exec (.decode x') s' = .next t' ∧ t.regs.SameReading t'.regs

/-- 41_decode.md R126, which the spec marks as its own inference from R110 and R113 to R122: the corner cases of its
table, STATUS and the outputs, from any state. -/
def Obligations.DecodeCornerCases : Prop :=
  ∀ (reserved : BitVec 31) (s : State) (in0 in1 : Word),
    DecodeLeaves reserved s 0 0 8 (fun r => r.humidity = 0 ∧ r.rawTemp = 0 ∧ r.temp = 0xFFFFFE0C ∧
      r.wind = 0 ∧ r.devid = 0 ∧ r.status = 1) ∧
    DecodeLeaves reserved s 0xFFFFFFFF 0xFFFFFFFF 8 (fun r =>
      r.humidity = 0xFF ∧ r.rawTemp = 0xFFF ∧ r.temp = 0x00000E0B ∧ r.wind = 0xFFF ∧
      r.devid = 0xFFFFFFFF ∧ r.status = 1) ∧
    (byteOf in0 1 = 0xF4 → (byteOf in0 2).extractLsb' 0 4 = 0x1 →
      DecodeLeaves reserved s in0 in1 8 (fun r => r.temp = 0x00000000)) ∧
    (byteOf in0 1 = 0xF3 → (byteOf in0 2).extractLsb' 0 4 = 0x1 →
      DecodeLeaves reserved s in0 in1 8 (fun r => r.temp = 0xFFFFFFFF)) ∧
    (byteOf in0 1 = 0x00 → (byteOf in0 2).extractLsb' 0 4 = 0x8 →
      DecodeLeaves reserved s in0 in1 8 (fun r => r.rawTemp = 0x800 ∧ r.temp = 0x0000060C)) ∧
    DecodeLeaves reserved s in0 0x80000000 8 (fun r => r.devid = 0x80000000 ∧ r.devid.toNat = 2147483648) ∧
    DecodeLeaves reserved s in0 in1 7 (fun r => r.OutputsZero ∧ r.status = 2) ∧
    DecodeLeaves reserved s in0 in1 0 (fun r => r.OutputsZero ∧ r.status = 2) ∧
    DecodeLeaves reserved s in0 in1 255 (fun r => DecodeLeaves reserved s in0 in1 8 (fun r' => r.SameReading r'))

/-- After a DECODE, its outcome stays in STATUS and the outputs through any requests that are no DECODE, whatever they
write to the inputs (10_state.md R36; 60_exceptions.md R135; 70_reset_and_hazards.md R157). -/
def Obligations.ReadingStaysUntilTheNextDecode : Prop :=
  ∀ (s : State) (q : RequestWord) (qs : List RequestWord) rest,
    s.inReset = false → isDecode (decode q) = true → (∀ x ∈ qs, isDecode (decode x) = false) →
    s.bus = .request q :: (qs.map .request ++ rest) →
    ∃ t : State, Host.Core.run core (qs.length + 1) s = .next t ∧ t.bus = rest ∧
      (s.regs.len.toNat % 256 < 8 → t.regs.status = 2 ∧ t.regs.OutputsZero) ∧
      (8 ≤ s.regs.len.toNat % 256 → t.regs.status = 1 ∧ t.regs.OutputsHold (decodeFields s.regs.in0 s.regs.in1))

/-- 70_reset_and_hazards.md R154, which the spec marks as its own inference from R150, R110 and R120: with no input
writes after reset DECODE raises PayloadTooShort, and a host that rewrites only IN0 and IN1 reuses the LEN that was
there. -/
def Obligations.SkippedInputWritesUseWhatIsThere : Prop :=
  (∀ reserved, ∃ t, exec (.decode reserved) State.reset = .next t ∧ t.regs.short = true ∧ t.regs.valid = false) ∧
  (∀ (reserved : BitVec 31) (d0 d1 : Word) (s : State), ∃ t u v,
    exec (.wrIn0 d0) s = .next t ∧ exec (.wrIn1 d1) t = .next u ∧
    exec (.decode reserved) u = .next v ∧ v.regs.len = s.regs.len ∧
    (s.regs.len.toNat % 256 < 8 → v.regs.short = true) ∧
    (8 ≤ s.regs.len.toNat % 256 → v.regs.valid = true ∧ v.regs.OutputsHold (decodeFields d0 d1)))

/-- The host sequence decode8, from any state out of reset and for a payload of any length, reports exactly what the
source's `decode(bytes, port)` gives: its record for 8 bytes or more, its error for fewer (00_scope.md R2;
10_state.md R24, R25; 30_encoding.md R70; 41_decode.md R110, R112 to R117, R120; 70_reset_and_hazards.md R153). -/
def Obligations.HostDecodeRefinesTheSourceFunction : Prop :=
  ∀ (s : State) (payload : List Byte) (p : Byte) rest, s.inReset = false →
    s.bus = (hostDecode payload p).map .request ++ rest →
    ∃ t : State, Host.Core.run core 5 s = .next t ∧ t.bus = rest ∧ t.regs.report = some (sourceDecode payload p) ∧
      (payload.length < 8 → t.regs.OutputsZero)
end

