-- ==== Sys2Proof/Laws/Encoding.lean ====
section
/-! SUPPORT. The three fields of a request word and its assembly are inverse (30_encoding.md R60). -/

namespace Sys2Proof

@[simp] theorem reqWE_request (we : Bool) (wa : BitVec 4) (d : Word) : reqWE (request we wa d) = we := by
  unfold reqWE request
  rw [BitVec.getLsbD_append]
  simp only [BitVec.getLsbD_append]
  simp

@[simp] theorem reqWA_request (we : Bool) (wa : BitVec 4) (d : Word) : reqWA (request we wa d) = wa := by
  apply BitVec.eq_of_getLsbD_eq
  intro i hi
  simp only [reqWA, request, BitVec.getLsbD_extractLsb', BitVec.getLsbD_append, hi, decide_true, Bool.true_and]
  simp
  intro h
  omega

@[simp] theorem reqWDATA_request (we : Bool) (wa : BitVec 4) (d : Word) : reqWDATA (request we wa d) = d := by
  apply BitVec.eq_of_getLsbD_eq
  intro i hi
  simp only [reqWDATA, request, BitVec.getLsbD_extractLsb', BitVec.getLsbD_append, hi, decide_true, Bool.true_and]
  simp [hi]

/-- A request word is its three fields. -/
theorem request_fields (q : RequestWord) : request (reqWE q) (reqWA q) (reqWDATA q) = q := by
  apply BitVec.eq_of_getLsbD_eq
  intro i hi
  simp only [reqWE, reqWA, reqWDATA, request, BitVec.getLsbD_extractLsb', BitVec.getLsbD_append]
  by_cases h : i < 32
  · simp [h]
  · by_cases h' : i < 36
    · simp [h, show i - 32 < 4 by omega, show 32 + (i - 32) = i by omega]
    · obtain rfl : i = 36 := by omega
      simp

/-- The decoder reads an assembled request by its fields. -/
theorem decode_request (we : Bool) (wa : BitVec 4) (d : Word) :
    decode (request we wa d) = if we then decodeWrite wa d else decodeRead wa d := by
  simp [decode]

/-- WDATA of a CTRL write is its bits 31:1 above its bit 0 (30_encoding.md R62). -/
theorem ctrl_split (d : Word) : d.extractLsb' 1 31 ++ BitVec.ofBool (d.getLsbD 0) = d := by
  apply BitVec.eq_of_getLsbD_eq
  intro i hi
  rw [BitVec.getLsbD_append, BitVec.getLsbD_extractLsb']
  rcases i with _ | i
  · simp
  · simp [show i < 31 by omega, Nat.add_comm 1 i]

/-- The bits above the lowest of a CTRL word. -/
theorem ctrl_high (reserved : BitVec 31) (b : BitVec 1) : (reserved ++ b : Word).extractLsb' 1 31 = reserved := by
  apply BitVec.eq_of_getLsbD_eq
  intro i hi
  rw [BitVec.getLsbD_extractLsb']
  simp only [hi, decide_true, Bool.true_and]
  exact (BitVec.getLsbD_append (x := reserved) (y := b) (i := 1 + i)).trans (by simp)

/-- The lowest bit of a CTRL word. -/
theorem ctrl_low (reserved : BitVec 31) (b : BitVec 1) : (reserved ++ b : Word).getLsbD 0 = b.getLsbD 0 :=
  (BitVec.getLsbD_append (x := reserved) (y := b) (i := 0)).trans (by simp)

end Sys2Proof
end

