-- ==== Sys2Proof/Laws/Operands.lean ====
section
/-! SUPPORT. The operand forms and STATUS words as numbers. -/

namespace Sys2Proof.Machine

@[simp] theorem toNat_zext32 {n : Nat} (h : n ≤ 32) (v : BitVec n) : (zext32 v).toNat = v.toNat := by
  have := v.isLt
  have : 2 ^ n ≤ 2 ^ 32 := Nat.pow_le_pow_right (by decide) h
  simp only [zext32, BitVec.toNat_setWidth]
  omega

theorem toNat_byteOf (w : Word) (j : Nat) : (byteOf w j).toNat = w.toNat / 2 ^ (8 * j) % 256 := by
  simp [byteOf, BitVec.extractLsb'_toNat, Nat.shiftRight_eq_div_pow]

@[simp] theorem toNat_lowByte (w : Word) : (lowByte w).toNat = w.toNat % 256 := by
  simp [lowByte, BitVec.extractLsb'_toNat]

theorem declaredLength_eq (r : Regs) : r.declaredLength = r.len.toNat % 256 := by
  simp [Regs.declaredLength, BitVec.extractLsb'_toNat]

theorem statusWord_valid (v s : Bool) : (statusWord v s).getLsbD 0 = v := by
  cases v <;> cases s <;> decide

theorem statusWord_short (v s : Bool) : (statusWord v s).getLsbD 1 = s := by
  cases v <;> cases s <;> decide

theorem statusWord_lt (v s : Bool) : (statusWord v s).toNat < 4 := by
  cases v <;> cases s <;> decide

/-- rawTemp - 500 is in range, so its two's complement reads back exactly (41_decode.md R122). -/
theorem sint_tempField (rt : BitVec 12) : sint (tempField rt) = (rt.toNat : Int) - 500 := by
  have := rt.isLt
  simp only [sint, tempField, sext32, tempOffset, BitVec.toInt_ofInt]
  rw [Int.bmod_eq_of_le] <;> omega

end Sys2Proof.Machine
end

