-- ==== Sys2Proof/Laws/State.lean ====
section
/-! SUPPORT. One lemma per field and update of the registers and the state, all by rfl. -/

namespace Sys2Proof.Machine

variable (r : Regs) (s : State)

@[simp] theorem Regs.writeIn0_in0 (w : Word) : (r.writeIn0 w).in0 = w := rfl
@[simp] theorem Regs.writeIn0_in1 (w : Word) : (r.writeIn0 w).in1 = r.in1 := rfl
@[simp] theorem Regs.writeIn0_len (w : Word) : (r.writeIn0 w).len = r.len := rfl
@[simp] theorem Regs.writeIn0_port (w : Word) : (r.writeIn0 w).port = r.port := rfl
@[simp] theorem Regs.writeIn0_status (w : Word) : (r.writeIn0 w).status = r.status := rfl
@[simp] theorem Regs.writeIn0_humidity (w : Word) : (r.writeIn0 w).humidity = r.humidity := rfl
@[simp] theorem Regs.writeIn0_rawTemp (w : Word) : (r.writeIn0 w).rawTemp = r.rawTemp := rfl
@[simp] theorem Regs.writeIn0_temp (w : Word) : (r.writeIn0 w).temp = r.temp := rfl
@[simp] theorem Regs.writeIn0_wind (w : Word) : (r.writeIn0 w).wind = r.wind := rfl
@[simp] theorem Regs.writeIn0_devid (w : Word) : (r.writeIn0 w).devid = r.devid := rfl

@[simp] theorem Regs.writeIn1_in0 (w : Word) : (r.writeIn1 w).in0 = r.in0 := rfl
@[simp] theorem Regs.writeIn1_in1 (w : Word) : (r.writeIn1 w).in1 = w := rfl
@[simp] theorem Regs.writeIn1_len (w : Word) : (r.writeIn1 w).len = r.len := rfl
@[simp] theorem Regs.writeIn1_port (w : Word) : (r.writeIn1 w).port = r.port := rfl
@[simp] theorem Regs.writeIn1_status (w : Word) : (r.writeIn1 w).status = r.status := rfl
@[simp] theorem Regs.writeIn1_humidity (w : Word) : (r.writeIn1 w).humidity = r.humidity := rfl
@[simp] theorem Regs.writeIn1_rawTemp (w : Word) : (r.writeIn1 w).rawTemp = r.rawTemp := rfl
@[simp] theorem Regs.writeIn1_temp (w : Word) : (r.writeIn1 w).temp = r.temp := rfl
@[simp] theorem Regs.writeIn1_wind (w : Word) : (r.writeIn1 w).wind = r.wind := rfl
@[simp] theorem Regs.writeIn1_devid (w : Word) : (r.writeIn1 w).devid = r.devid := rfl

@[simp] theorem Regs.writeLen_in0 (w : Word) : (r.writeLen w).in0 = r.in0 := rfl
@[simp] theorem Regs.writeLen_in1 (w : Word) : (r.writeLen w).in1 = r.in1 := rfl
@[simp] theorem Regs.writeLen_len (w : Word) : (r.writeLen w).len = zext32 (lowByte w) := rfl
@[simp] theorem Regs.writeLen_port (w : Word) : (r.writeLen w).port = r.port := rfl
@[simp] theorem Regs.writeLen_status (w : Word) : (r.writeLen w).status = r.status := rfl
@[simp] theorem Regs.writeLen_humidity (w : Word) : (r.writeLen w).humidity = r.humidity := rfl
@[simp] theorem Regs.writeLen_rawTemp (w : Word) : (r.writeLen w).rawTemp = r.rawTemp := rfl
@[simp] theorem Regs.writeLen_temp (w : Word) : (r.writeLen w).temp = r.temp := rfl
@[simp] theorem Regs.writeLen_wind (w : Word) : (r.writeLen w).wind = r.wind := rfl
@[simp] theorem Regs.writeLen_devid (w : Word) : (r.writeLen w).devid = r.devid := rfl

@[simp] theorem Regs.writePort_in0 (w : Word) : (r.writePort w).in0 = r.in0 := rfl
@[simp] theorem Regs.writePort_in1 (w : Word) : (r.writePort w).in1 = r.in1 := rfl
@[simp] theorem Regs.writePort_len (w : Word) : (r.writePort w).len = r.len := rfl
@[simp] theorem Regs.writePort_port (w : Word) : (r.writePort w).port = zext32 (lowByte w) := rfl
@[simp] theorem Regs.writePort_status (w : Word) : (r.writePort w).status = r.status := rfl
@[simp] theorem Regs.writePort_humidity (w : Word) : (r.writePort w).humidity = r.humidity := rfl
@[simp] theorem Regs.writePort_rawTemp (w : Word) : (r.writePort w).rawTemp = r.rawTemp := rfl
@[simp] theorem Regs.writePort_temp (w : Word) : (r.writePort w).temp = r.temp := rfl
@[simp] theorem Regs.writePort_wind (w : Word) : (r.writePort w).wind = r.wind := rfl
@[simp] theorem Regs.writePort_devid (w : Word) : (r.writePort w).devid = r.devid := rfl

@[simp] theorem Regs.raisePayloadTooShort_in0 : (r.raisePayloadTooShort).in0 = r.in0 := rfl
@[simp] theorem Regs.raisePayloadTooShort_in1 : (r.raisePayloadTooShort).in1 = r.in1 := rfl
@[simp] theorem Regs.raisePayloadTooShort_len : (r.raisePayloadTooShort).len = r.len := rfl
@[simp] theorem Regs.raisePayloadTooShort_port : (r.raisePayloadTooShort).port = r.port := rfl
@[simp] theorem Regs.raisePayloadTooShort_status : (r.raisePayloadTooShort).status = statusWord false true := rfl
@[simp] theorem Regs.raisePayloadTooShort_humidity : (r.raisePayloadTooShort).humidity = 0x00000000 := rfl
@[simp] theorem Regs.raisePayloadTooShort_rawTemp : (r.raisePayloadTooShort).rawTemp = 0x00000000 := rfl
@[simp] theorem Regs.raisePayloadTooShort_temp : (r.raisePayloadTooShort).temp = 0x00000000 := rfl
@[simp] theorem Regs.raisePayloadTooShort_wind : (r.raisePayloadTooShort).wind = 0x00000000 := rfl
@[simp] theorem Regs.raisePayloadTooShort_devid : (r.raisePayloadTooShort).devid = 0x00000000 := rfl

@[simp] theorem Regs.latch_in0 (f : Fields) : (r.latch f).in0 = r.in0 := rfl
@[simp] theorem Regs.latch_in1 (f : Fields) : (r.latch f).in1 = r.in1 := rfl
@[simp] theorem Regs.latch_len (f : Fields) : (r.latch f).len = r.len := rfl
@[simp] theorem Regs.latch_port (f : Fields) : (r.latch f).port = r.port := rfl
@[simp] theorem Regs.latch_status (f : Fields) : (r.latch f).status = statusWord true false := rfl
@[simp] theorem Regs.latch_humidity (f : Fields) : (r.latch f).humidity = zext32 f.humidity := rfl
@[simp] theorem Regs.latch_rawTemp (f : Fields) : (r.latch f).rawTemp = zext32 f.rawTemp := rfl
@[simp] theorem Regs.latch_temp (f : Fields) : (r.latch f).temp = f.temp := rfl
@[simp] theorem Regs.latch_wind (f : Fields) : (r.latch f).wind = zext32 f.wind := rfl
@[simp] theorem Regs.latch_devid (f : Fields) : (r.latch f).devid = f.devid := rfl

@[simp] theorem Regs.reset_in0 : Regs.reset.in0 = 0x00000000 := rfl
@[simp] theorem Regs.reset_in1 : Regs.reset.in1 = 0x00000000 := rfl
@[simp] theorem Regs.reset_len : Regs.reset.len = 0x00000000 := rfl
@[simp] theorem Regs.reset_port : Regs.reset.port = 0x00000000 := rfl
@[simp] theorem Regs.reset_status : Regs.reset.status = 0x00000000 := rfl
@[simp] theorem Regs.reset_humidity : Regs.reset.humidity = 0x00000000 := rfl
@[simp] theorem Regs.reset_rawTemp : Regs.reset.rawTemp = 0x00000000 := rfl
@[simp] theorem Regs.reset_temp : Regs.reset.temp = 0x00000000 := rfl
@[simp] theorem Regs.reset_wind : Regs.reset.wind = 0x00000000 := rfl
@[simp] theorem Regs.reset_devid : Regs.reset.devid = 0x00000000 := rfl

@[simp] theorem State.assertReset_regs : s.assertReset.regs = Regs.reset := rfl
@[simp] theorem State.assertReset_inReset : s.assertReset.inReset = true := rfl
@[simp] theorem State.assertReset_rdata : s.assertReset.rdata = none := rfl
@[simp] theorem State.assertReset_bus : s.assertReset.bus = s.bus := rfl
@[simp] theorem State.releaseReset_regs : s.releaseReset.regs = s.regs := rfl
@[simp] theorem State.releaseReset_inReset : s.releaseReset.inReset = false := rfl
@[simp] theorem State.releaseReset_rdata : s.releaseReset.rdata = none := rfl
@[simp] theorem State.releaseReset_bus : s.releaseReset.bus = s.bus := rfl

@[simp] theorem placeRequest_regs (q : RequestWord) : (placeRequest s q).regs = s.regs := rfl
@[simp] theorem placeRequest_inReset (q : RequestWord) : (placeRequest s q).inReset = false := rfl
@[simp] theorem placeRequest_rdata (q : RequestWord) : (placeRequest s q).rdata = s.rdata := rfl
@[simp] theorem placeRequest_bus (q : RequestWord) : (placeRequest s q).bus = .request q :: s.bus := rfl

end Sys2Proof.Machine
end

