-- ==== Sys2Proof/Laws/Ops.lean ====
section
/-! SUPPORT. What each shared operation can do, said once. -/

namespace Sys2Proof.Machine

/-- A write always completes, with exactly these registers and no answer. -/
theorem acceptWrite_next {r : Regs} {s t : State} :
    acceptWrite r s = .next t ↔ t = { s with regs := r, rdata := none } := by
  simp [acceptWrite, eq_comm]

/-- A read always completes, with exactly this answer. -/
theorem answerRead_next {v : Word} {s t : State} :
    answerRead v s = .next t ↔ t = { s with rdata := some v } := by
  simp [answerRead, eq_comm]

/-- An ignored write changes nothing but the answer. -/
theorem ignoreWrite_next {s t : State} : ignoreWrite s = .next t ↔ t = { s with rdata := none } :=
  acceptWrite_next

@[simp] theorem latch_valid (r : Regs) (f : Fields) : (r.latch f).valid = true := statusWord_valid _ _

@[simp] theorem latch_short (r : Regs) (f : Fields) : (r.latch f).short = false := statusWord_short _ _

@[simp] theorem raisePayloadTooShort_valid (r : Regs) : r.raisePayloadTooShort.valid = false := statusWord_valid _ _

@[simp] theorem raisePayloadTooShort_short (r : Regs) : r.raisePayloadTooShort.short = true := statusWord_short _ _

@[simp] theorem reset_valid : Regs.reset.valid = false := by decide

@[simp] theorem reset_short : Regs.reset.short = false := by decide

/-- A decode does one of two things (41_decode.md R110). -/
theorem afterDecode_cases (r : Regs) :
    (r.declaredLength < 8 ∧ r.afterDecode = r.raisePayloadTooShort) ∨
    (8 ≤ r.declaredLength ∧ r.afterDecode = r.latch (decodeFields r.in0 r.in1)) := by
  by_cases h : r.declaredLength < 8
  · exact .inl ⟨h, by simp [Regs.afterDecode, Regs.tooShort, minLength, h]⟩
  · exact .inr ⟨by omega, by simp [Regs.afterDecode, Regs.tooShort, minLength, h]⟩

/-- An operation never touches the reset input or what is still to come. -/
theorem exec_keeps_interface {i : Instr} {s t : State} (h : exec i s = .next t) :
    t.inReset = s.inReset ∧ t.bus = s.bus := by
  cases i <;> cases h <;> exact ⟨rfl, rfl⟩

/-- Only out of reset is anything performed (70_reset_and_hazards.md R151). -/
theorem arrive_perform {e : BusEvent} {s : State} {q : RequestWord} (h : arrive e s = .perform q) :
    s.inReset = false := by
  cases hr : s.inReset with
  | false => rfl
  | true =>
    cases e <;> simp [arrive, arriveRequest, hr] at h
    split at h <;> cases h

/-- Only the reset input settles an event with a next state. -/
theorem arrive_settle_next {e : BusEvent} {s t : State} (h : arrive e s = .settle (.next t)) :
    (e = .assertReset ∧ t = s.assertReset) ∨ (e = .releaseReset ∧ t = s.releaseReset) := by
  cases e with
  | request q => simp only [arrive, arriveRequest] at h; split at h <;> cases h
  | access a =>
    simp only [arrive, arriveRequest] at h
    split at h
    · split at h <;> cases h
    · cases h
  | assertReset => cases h; exact .inl ⟨rfl, rfl⟩
  | releaseReset => cases h; exact .inr ⟨rfl, rfl⟩

/-- What a step can do when it goes on: idle, perform a request out of reset, or follow the reset input. -/
theorem step_cases {s t : State} (h : step s = .next t) :
    (s.bus = [] ∧ t = s) ∨
    (∃ e rest q, s.bus = e :: rest ∧ s.inReset = false ∧ arrive e { s with bus := rest } = .perform q ∧
      exec (decode q) { s with bus := rest } = .next t) ∨
    (∃ rest, s.bus = .assertReset :: rest ∧ t = State.assertReset { s with bus := rest }) ∨
    (∃ rest, s.bus = .releaseReset :: rest ∧ t = State.releaseReset { s with bus := rest }) := by
  unfold step at h
  split at h
  case h_1 hb => exact .inl ⟨hb, by simpa [idle, eq_comm] using h⟩
  case h_2 e rest hb =>
    split at h
    case h_1 q ha => exact .inr (.inl ⟨e, rest, q, hb, arrive_perform (s := { s with bus := rest }) ha, ha, h⟩)
    case h_2 r ha =>
      subst h
      obtain ⟨rfl, rfl⟩ | ⟨rfl, rfl⟩ := arrive_settle_next ha
      · exact .inr (.inr (.inl ⟨rest, hb, rfl⟩))
      · exact .inr (.inr (.inr ⟨rest, hb, rfl⟩))

end Sys2Proof.Machine
end

