-- ==== Sys2Proof/Laws/PerInstr.lean ====
section
/-! SUPPORT. Facts about the operations as syntax, one lemma per constructor. RowSelects: an operation's word is
selected by its own row of spec/opcode_table.json (30_encoding.md R61). -/

namespace Sys2Proof.Laws

/-- Masking an assembled word, the WE and WA bits apart from the WDATA bits. -/
theorem request_and (we : Bool) (wa : BitVec 4) (d : Word) (m : BitVec 5) (k : Word) :
    request we wa d &&& (m ++ k : BitVec 37) = ((BitVec.ofBool we ++ wa : BitVec 5) &&& m) ++ (d &&& k) :=
  BitVec.and_append (x₁ := (BitVec.ofBool we ++ wa : BitVec 5)) (x₂ := m) (y₁ := d) (y₂ := k)

/-- A row that fixes WE and WA selects every request with that WE and WA. -/
theorem slot_selects (we : Bool) (wa : BitVec 4) (d : Word) :
    request we wa d &&& 0x1F00000000 = request we wa 0 := by
  have h := request_and we wa d 0x1F#5 0#32
  have h5 : ∀ (x : BitVec 5), x &&& 0x1F#5 = x := by decide
  rw [h5, BitVec.and_zero] at h
  exact h

/-- The two rows for WA 12..15 fix WE and WA[3:2]. -/
theorem highSlot_selects (we : Bool) (wa : BitVec 4) (d : Word) (h : isHighSlot wa = true) :
    request we wa d &&& 0x1C00000000 = request we 12 0 := by
  have hw : ∀ (we : Bool) (wa : BitVec 4), isHighSlot wa = true →
      (BitVec.ofBool we ++ wa : BitVec 5) &&& 0x1C#5 = BitVec.ofBool we ++ 12#4 := by decide
  have h' := request_and we wa d 0x1C#5 0#32
  rw [hw we wa h, BitVec.and_zero] at h'
  exact h'

/-- The two rows of CTRL writes fix WDATA[0] too (30_encoding.md R62). -/
theorem ctrl_selects (reserved : BitVec 31) (b : BitVec 1) :
    request true 4 (reserved ++ b) &&& 0x1F00000001 = request true 4 ((0 : BitVec 31) ++ b) := by
  have h := request_and true 4 (reserved ++ b) 0x1F#5 1#32
  have hb : (reserved ++ b : BitVec 32) &&& 1#32 = (0 : BitVec 31) ++ b := by
    have h' : (reserved ++ b : BitVec (31 + 1)) &&& (0#31 ++ 1#1) = (reserved &&& 0#31) ++ (b &&& 1#1) := BitVec.and_append
    have hb1 : ∀ b : BitVec 1, b &&& 1#1 = b := by decide
    rw [hb1 b, BitVec.and_zero] at h'
    exact h'
  rw [hb] at h
  exact h

end Sys2Proof.Laws

/-- A row of the operation's mnemonic selects its word. -/
def Sys2Proof.Laws.RowSelects.Statement (i : Sys2Proof.Instr) : Prop :=
  i.wellFormed = true → ∃ r ∈ Sys2Proof.opcodeTable, r.mnemonic = i.mnemonic ∧ r.selectedBy (Sys2Proof.encode i) = true

namespace Sys2Proof.Laws.RowSelects

/-- The shape of every lemma below: the row is in the table and the masked word is its value. -/
theorem of_row (i : Instr) (r : OpRow) (hr : r ∈ opcodeTable) (hm : r.mnemonic = i.mnemonic)
    (hs : i.wellFormed = true → encode i &&& r.mask = r.value) : Statement i :=
  fun h => ⟨r, hr, hm, by simp [OpRow.selectedBy, hs h]⟩

theorem wrIn0 (w : Word) : Statement (.wrIn0 w) :=
  of_row _ ⟨"WR.IN0", 0x1000000000, 0x1F00000000⟩ (by decide) rfl (fun _ => (slot_selects _ _ w).trans (by decide))

theorem wrIn1 (w : Word) : Statement (.wrIn1 w) :=
  of_row _ ⟨"WR.IN1", 0x1100000000, 0x1F00000000⟩ (by decide) rfl (fun _ => (slot_selects _ _ w).trans (by decide))

theorem wrLen (w : Word) : Statement (.wrLen w) :=
  of_row _ ⟨"WR.LEN", 0x1200000000, 0x1F00000000⟩ (by decide) rfl (fun _ => (slot_selects _ _ w).trans (by decide))

theorem wrPort (w : Word) : Statement (.wrPort w) :=
  of_row _ ⟨"WR.PORT", 0x1300000000, 0x1F00000000⟩ (by decide) rfl (fun _ => (slot_selects _ _ w).trans (by decide))

theorem nop (w : BitVec 31) : Statement (.nop w) :=
  of_row _ ⟨"NOP", 0x1400000000, 0x1F00000001⟩ (by decide) rfl (fun _ => (ctrl_selects w _).trans (by decide))

theorem decode (w : BitVec 31) : Statement (.decode w) :=
  of_row _ ⟨"DECODE", 0x1400000001, 0x1F00000001⟩ (by decide) rfl (fun _ => (ctrl_selects w _).trans (by decide))

theorem wrStatus (w : Word) : Statement (.wrStatus w) :=
  of_row _ ⟨"WR.STATUS", 0x1500000000, 0x1F00000000⟩ (by decide) rfl (fun _ => (slot_selects _ _ w).trans (by decide))

theorem wrHumidity (w : Word) : Statement (.wrHumidity w) :=
  of_row _ ⟨"WR.HUMIDITY", 0x1600000000, 0x1F00000000⟩ (by decide) rfl (fun _ => (slot_selects _ _ w).trans (by decide))

theorem wrRawTemp (w : Word) : Statement (.wrRawTemp w) :=
  of_row _ ⟨"WR.RAW_TEMP", 0x1700000000, 0x1F00000000⟩ (by decide) rfl (fun _ => (slot_selects _ _ w).trans (by decide))

theorem wrTemp (w : Word) : Statement (.wrTemp w) :=
  of_row _ ⟨"WR.TEMP", 0x1800000000, 0x1F00000000⟩ (by decide) rfl (fun _ => (slot_selects _ _ w).trans (by decide))

theorem wrWind (w : Word) : Statement (.wrWind w) :=
  of_row _ ⟨"WR.WIND", 0x1900000000, 0x1F00000000⟩ (by decide) rfl (fun _ => (slot_selects _ _ w).trans (by decide))

theorem wrDevid (w : Word) : Statement (.wrDevid w) :=
  of_row _ ⟨"WR.DEVID", 0x1A00000000, 0x1F00000000⟩ (by decide) rfl (fun _ => (slot_selects _ _ w).trans (by decide))

theorem wrUnmapped11 (w : Word) : Statement (.wrUnmapped11 w) :=
  of_row _ ⟨"WR.UNMAPPED11", 0x1B00000000, 0x1F00000000⟩ (by decide) rfl (fun _ => (slot_selects _ _ w).trans (by decide))

theorem wrUnmapped12_15 (wa : BitVec 4) (w : Word) : Statement (.wrUnmapped12_15 wa w) :=
  of_row _ ⟨"WR.UNMAPPED12_15", 0x1C00000000, 0x1C00000000⟩ (by decide) rfl (fun h => (highSlot_selects _ wa w h).trans (by decide))

theorem rdIn0 (w : Word) : Statement (.rdIn0 w) :=
  of_row _ ⟨"RD.IN0", 0x0000000000, 0x1F00000000⟩ (by decide) rfl (fun _ => (slot_selects _ _ w).trans (by decide))

theorem rdIn1 (w : Word) : Statement (.rdIn1 w) :=
  of_row _ ⟨"RD.IN1", 0x0100000000, 0x1F00000000⟩ (by decide) rfl (fun _ => (slot_selects _ _ w).trans (by decide))

theorem rdLen (w : Word) : Statement (.rdLen w) :=
  of_row _ ⟨"RD.LEN", 0x0200000000, 0x1F00000000⟩ (by decide) rfl (fun _ => (slot_selects _ _ w).trans (by decide))

theorem rdPort (w : Word) : Statement (.rdPort w) :=
  of_row _ ⟨"RD.PORT", 0x0300000000, 0x1F00000000⟩ (by decide) rfl (fun _ => (slot_selects _ _ w).trans (by decide))

theorem rdCtrl (w : Word) : Statement (.rdCtrl w) :=
  of_row _ ⟨"RD.CTRL", 0x0400000000, 0x1F00000000⟩ (by decide) rfl (fun _ => (slot_selects _ _ w).trans (by decide))

theorem rdStatus (w : Word) : Statement (.rdStatus w) :=
  of_row _ ⟨"RD.STATUS", 0x0500000000, 0x1F00000000⟩ (by decide) rfl (fun _ => (slot_selects _ _ w).trans (by decide))

theorem rdHumidity (w : Word) : Statement (.rdHumidity w) :=
  of_row _ ⟨"RD.HUMIDITY", 0x0600000000, 0x1F00000000⟩ (by decide) rfl (fun _ => (slot_selects _ _ w).trans (by decide))

theorem rdRawTemp (w : Word) : Statement (.rdRawTemp w) :=
  of_row _ ⟨"RD.RAW_TEMP", 0x0700000000, 0x1F00000000⟩ (by decide) rfl (fun _ => (slot_selects _ _ w).trans (by decide))

theorem rdTemp (w : Word) : Statement (.rdTemp w) :=
  of_row _ ⟨"RD.TEMP", 0x0800000000, 0x1F00000000⟩ (by decide) rfl (fun _ => (slot_selects _ _ w).trans (by decide))

theorem rdWind (w : Word) : Statement (.rdWind w) :=
  of_row _ ⟨"RD.WIND", 0x0900000000, 0x1F00000000⟩ (by decide) rfl (fun _ => (slot_selects _ _ w).trans (by decide))

theorem rdDevid (w : Word) : Statement (.rdDevid w) :=
  of_row _ ⟨"RD.DEVID", 0x0A00000000, 0x1F00000000⟩ (by decide) rfl (fun _ => (slot_selects _ _ w).trans (by decide))

theorem rdUnmapped11 (w : Word) : Statement (.rdUnmapped11 w) :=
  of_row _ ⟨"RD.UNMAPPED11", 0x0B00000000, 0x1F00000000⟩ (by decide) rfl (fun _ => (slot_selects _ _ w).trans (by decide))

theorem rdUnmapped12_15 (wa : BitVec 4) (w : Word) : Statement (.rdUnmapped12_15 wa w) :=
  of_row _ ⟨"RD.UNMAPPED12_15", 0x0C00000000, 0x1C00000000⟩ (by decide) rfl (fun h => (highSlot_selects _ wa w h).trans (by decide))

end Sys2Proof.Laws.RowSelects
end

