-- ==== Sys2Proof/Laws/Run.lean ====
section
/-! SUPPORT. How a run is taken apart, at its first step and at its last. -/

namespace Sys2Proof.Machine

/-- A run that begins with a next state goes on from it. -/
theorem run_succ_next {s t : State} (k : Nat) (h : step s = .next t) :
    Host.Core.run core (k + 1) s = Host.Core.run core k t := by
  have h' : core.step s = .next t := h
  simp only [Host.Core.run, h']

/-- A run that begins with a fault stops with it. -/
theorem run_succ_fault {s : State} {r : Fault} (k : Nat) (h : step s = .fault r) :
    Host.Core.run core (k + 1) s = .fault r := by
  have h' : core.step s = .fault r := h
  simp only [Host.Core.run, h']

/-- A run that begins with a refusal stops with it. -/
theorem run_succ_refused {s : State} {r : Refusal} (k : Nat) (h : step s = .refused r) :
    Host.Core.run core (k + 1) s = .refused r := by
  have h' : core.step s = .refused r := h
  simp only [Host.Core.run, h']

/-- A run's last step can be taken off. -/
theorem run_snoc {s t : State} (k : Nat) (h : Host.Core.run core k s = .next t) :
    Host.Core.run core (k + 1) s = step t := by
  induction k generalizing s with
  | zero =>
    obtain rfl : s = t := by cases h; rfl
    cases hs : step s with
    | next u => exact run_succ_next 0 hs
    | fault r => exact run_succ_fault 0 hs
    | refused r => exact run_succ_refused 0 hs
  | succ k ih =>
    cases hs : step s with
    | next u => rw [run_succ_next k hs] at h; rw [run_succ_next _ hs]; exact ih h
    | fault r => rw [run_succ_fault k hs] at h; cases h
    | refused r => rw [run_succ_refused k hs] at h; cases h

/-- A run that goes on for k + 1 steps went on for k. -/
theorem run_init {s t : State} (k : Nat) (h : Host.Core.run core (k + 1) s = .next t) :
    ∃ u : State, Host.Core.run core k s = .next u ∧ step u = .next t := by
  induction k generalizing s with
  | zero =>
    refine ⟨s, rfl, ?_⟩
    cases hs : step s with
    | next u => rw [run_succ_next 0 hs] at h; exact h
    | fault r => rw [run_succ_fault 0 hs] at h; cases h
    | refused r => rw [run_succ_refused 0 hs] at h; cases h
  | succ k ih =>
    cases hs : step s with
    | next u => rw [run_succ_next _ hs] at h; rw [run_succ_next _ hs]; exact ih h
    | fault r => rw [run_succ_fault _ hs] at h; cases h
    | refused r => rw [run_succ_refused _ hs] at h; cases h

end Sys2Proof.Machine
end

