-- ==== Sys2Proof/Laws/Safety.lean ====
section
/-! SUPPORT. The small lemmas of the terms claims use. -/

namespace Sys2Proof.Machine

theorem isDecode_eq_true {i : Instr} (h : isDecode i = true) : ∃ reserved, i = .decode reserved := by
  cases i <;> first | exact ⟨_, rfl⟩ | cases h

theorem raisePayloadTooShort_outputsZero (r : Regs) : r.raisePayloadTooShort.OutputsZero :=
  ⟨rfl, rfl, rfl, rfl, rfl⟩

theorem latch_outputsHold (r : Regs) (f : Fields) : (r.latch f).OutputsHold f :=
  ⟨rfl, rfl, rfl, rfl, rfl⟩

theorem Regs.SameReading.refl (r : Regs) : r.SameReading r :=
  ⟨rfl, rfl, rfl, rfl, rfl, rfl⟩

theorem Regs.SameReading.trans {r r' r'' : Regs} (h : r.SameReading r') (h' : r'.SameReading r'') : r.SameReading r'' :=
  ⟨h'.status.trans h.status, h'.humidity.trans h.humidity, h'.rawTemp.trans h.rawTemp, h'.temp.trans h.temp,
    h'.wind.trans h.wind, h'.devid.trans h.devid⟩

/-- A reading that is the same is 0 when the other is. -/
theorem Regs.SameReading.outputsZero {r r' : Regs} (h : r.SameReading r') (h0 : r.OutputsZero) : r'.OutputsZero :=
  ⟨h.humidity.trans h0.humidity, h.rawTemp.trans h0.rawTemp, h.temp.trans h0.temp, h.wind.trans h0.wind,
    h.devid.trans h0.devid⟩

/-- A reading that is the same holds the same fields. -/
theorem Regs.SameReading.outputsHold {r r' : Regs} {f : Fields} (h : r.SameReading r') (hf : r.OutputsHold f) :
    r'.OutputsHold f :=
  ⟨h.humidity.trans hf.humidity, h.rawTemp.trans hf.rawTemp, h.temp.trans hf.temp, h.wind.trans hf.wind,
    h.devid.trans hf.devid⟩

end Sys2Proof.Machine
end

