-- ==== Sys2Proof/Tests/Slice0.lean ====
section
/-! SUPPORT. The model's own tests. Every expected value is taken from spec/, as the comment beside it says. -/

namespace Sys2Proof.Tests

open Sys2Proof Sys2Proof.Machine

/-! ## The check of WellFormed refuses ill-formed terms (R94, R107: WA 12..15) -/

theorem test_wellFormed_refuses_write_slot_11 : (Instr.wrUnmapped12_15 11 0).wellFormed = false := by decide
theorem test_wellFormed_refuses_read_slot_0 : (Instr.rdUnmapped12_15 0 0).wellFormed = false := by decide
theorem test_wellFormed_accepts_slots_12_and_15 :
    (Instr.wrUnmapped12_15 12 0).wellFormed = true ∧ (Instr.rdUnmapped12_15 15 0).wellFormed = true := by decide

/-! ## One word per row, its fixed bits written out from "encoding" of spec/opcode_table.json -/

theorem test_decode_wrIn0 : decode (0b10000#5 ++ 0x89ABCDEF#32) = .wrIn0 0x89ABCDEF := by decide
theorem test_decode_wrIn1 : decode (0b10001#5 ++ 0x89ABCDEF#32) = .wrIn1 0x89ABCDEF := by decide
theorem test_decode_wrLen : decode (0b10010#5 ++ 0x89ABCDEF#32) = .wrLen 0x89ABCDEF := by decide
theorem test_decode_wrPort : decode (0b10011#5 ++ 0x89ABCDEF#32) = .wrPort 0x89ABCDEF := by decide
theorem test_decode_nop : decode (0b10100#5 ++ 0x6D5E6F78#31 ++ 0b0#1) = .nop 0x6D5E6F78 := by decide
theorem test_decode_decode : decode (0b10100#5 ++ 0x6D5E6F78#31 ++ 0b1#1) = .decode 0x6D5E6F78 := by decide
theorem test_decode_wrStatus : decode (0b10101#5 ++ 0x89ABCDEF#32) = .wrStatus 0x89ABCDEF := by decide
theorem test_decode_wrHumidity : decode (0b10110#5 ++ 0x89ABCDEF#32) = .wrHumidity 0x89ABCDEF := by decide
theorem test_decode_wrRawTemp : decode (0b10111#5 ++ 0x89ABCDEF#32) = .wrRawTemp 0x89ABCDEF := by decide
theorem test_decode_wrTemp : decode (0b11000#5 ++ 0x89ABCDEF#32) = .wrTemp 0x89ABCDEF := by decide
theorem test_decode_wrWind : decode (0b11001#5 ++ 0x89ABCDEF#32) = .wrWind 0x89ABCDEF := by decide
theorem test_decode_wrDevid : decode (0b11010#5 ++ 0x89ABCDEF#32) = .wrDevid 0x89ABCDEF := by decide
theorem test_decode_wrUnmapped11 : decode (0b11011#5 ++ 0x89ABCDEF#32) = .wrUnmapped11 0x89ABCDEF := by decide
theorem test_decode_wrUnmapped12_15 : decode (0b11110#5 ++ 0x89ABCDEF#32) = .wrUnmapped12_15 14 0x89ABCDEF := by decide
theorem test_decode_rdIn0 : decode (0b00000#5 ++ 0x89ABCDEF#32) = .rdIn0 0x89ABCDEF := by decide
theorem test_decode_rdIn1 : decode (0b00001#5 ++ 0x89ABCDEF#32) = .rdIn1 0x89ABCDEF := by decide
theorem test_decode_rdLen : decode (0b00010#5 ++ 0x89ABCDEF#32) = .rdLen 0x89ABCDEF := by decide
theorem test_decode_rdPort : decode (0b00011#5 ++ 0x89ABCDEF#32) = .rdPort 0x89ABCDEF := by decide
theorem test_decode_rdCtrl : decode (0b00100#5 ++ 0x89ABCDEF#32) = .rdCtrl 0x89ABCDEF := by decide
theorem test_decode_rdStatus : decode (0b00101#5 ++ 0x89ABCDEF#32) = .rdStatus 0x89ABCDEF := by decide
theorem test_decode_rdHumidity : decode (0b00110#5 ++ 0x89ABCDEF#32) = .rdHumidity 0x89ABCDEF := by decide
theorem test_decode_rdRawTemp : decode (0b00111#5 ++ 0x89ABCDEF#32) = .rdRawTemp 0x89ABCDEF := by decide
theorem test_decode_rdTemp : decode (0b01000#5 ++ 0x89ABCDEF#32) = .rdTemp 0x89ABCDEF := by decide
theorem test_decode_rdWind : decode (0b01001#5 ++ 0x89ABCDEF#32) = .rdWind 0x89ABCDEF := by decide
theorem test_decode_rdDevid : decode (0b01010#5 ++ 0x89ABCDEF#32) = .rdDevid 0x89ABCDEF := by decide
theorem test_decode_rdUnmapped11 : decode (0b01011#5 ++ 0x89ABCDEF#32) = .rdUnmapped11 0x89ABCDEF := by decide
theorem test_decode_rdUnmapped12_15 : decode (0b01110#5 ++ 0x89ABCDEF#32) = .rdUnmapped12_15 14 0x89ABCDEF := by decide

/-- No 38-bit word is a request (R60). -/
theorem test_table_word_above_bit_36_refused : decodeTableWord 40 0x2000000000 = none := by decide
/-- Section 2.3: 0x14_FFFF_FFFF decodes to DECODE. -/
theorem test_table_word_decode : decodeTableWord 40 0x14FFFFFFFF = some (.decode 0x7FFFFFFF) := by decide
/-- A request has five bytes (R60, R68). -/
theorem test_four_bytes_refused : decodeBytes [1, 0, 0, 0] = .error (.notFiveBytes 4) := by decide

/-! ## One step of each operation -/

/-- The state after one request from s, if the machine goes on. -/
def after (s : State) (q : RequestWord) : Option State :=
  match step { s with bus := [.request q] } with
  | .next t => some t
  | .fault _ => none
  | .refused _ => none

/-- The register files after and the answer. -/
def regsAfter (s : State) (q : RequestWord) : Option Regs := (after s q).map State.regs
def answer (s : State) (q : RequestWord) : Option (Option Word) := (after s q).map State.rdata

/-- The end of program P3 after its first decode: IN0 = 0x0310E805, IN1 = 0x04030201, LEN = 8 (R100, R110 examples). -/
def loaded : State where
  regs :=
    { in0 := 0x0310E805, in1 := 0x04030201, len := 8, port := 0xCC, status := 1, humidity := 0x05, rawTemp := 0x0E8
      temp := 0xFFFFFEF4, wind := 0x031, devid := 0x04030201 }
  inReset := false
  rdata := none
  bus := []

/-- The same inputs before any decode. -/
def undecoded : State where
  regs := { Regs.reset with in0 := 0x0310E805, in1 := 0x04030201, len := 8 }
  inReset := false
  rdata := none
  bus := []

/-- R82; R36, program P3. -/
theorem test_wrIn0_keeps_reading :
    regsAfter loaded 0x10FFFFFFFF = some { loaded.regs with in0 := 0xFFFFFFFF } := by decide

/-- A6. -/
theorem test_wrIn1_top_bit : regsAfter loaded 0x1180000000 = some { loaded.regs with in1 := 0x80000000 } := by decide

/-- A3: stores 0x08. -/
theorem test_wrLen_drops_bit_8 : regsAfter loaded 0x1200000108 = some loaded.regs := by decide

/-- A15. -/
theorem test_wrLen_zero_keeps_reading : regsAfter loaded 0x1200000000 = some { loaded.regs with len := 0 } := by decide

/-- A4. -/
theorem test_wrPort_low_byte :
    regsAfter State.reset 0x13FFFFFFCC = some { Regs.reset with port := 0x000000CC } := by decide

/-- A13. -/
theorem test_nop_ignores_high_bits : regsAfter undecoded 0x14FFFFFFFE = some undecoded.regs := by decide

/-- R110 example and A14, with PORT as it was. -/
theorem test_decode_spec_example :
    regsAfter { undecoded with regs := { undecoded.regs with port := 0xCC } } 0x14FFFFFFFF = some loaded.regs := by decide

/-- V16, P4: a failed decode clears an earlier reading. -/
theorem test_decode_short_clears :
    regsAfter { loaded with regs := { loaded.regs with len := 7 } } 0x1400000001 =
      some { Regs.reset with in0 := 0x0310E805, in1 := 0x04030201, len := 7, port := 0xCC, status := 2 } := by decide

/-- A7. -/
theorem test_wrStatus_ignored : regsAfter loaded 0x1500000000 = some loaded.regs := by decide

/-- R88 example. -/
theorem test_wrHumidity_ignored : regsAfter loaded 0x16000000FF = some loaded.regs := by decide

/-- R89 example. -/
theorem test_wrRawTemp_ignored : regsAfter loaded 0x1700000001 = some loaded.regs := by decide

/-- A8. -/
theorem test_wrTemp_ignored : regsAfter loaded 0x1812345678 = some loaded.regs := by decide

/-- R91 example. -/
theorem test_wrWind_ignored : regsAfter loaded 0x1900000011 = some loaded.regs := by decide

/-- R92 example. -/
theorem test_wrDevid_ignored : regsAfter loaded 0x1A00000001 = some loaded.regs := by decide

/-- A9. -/
theorem test_wrUnmapped11_ignored : regsAfter loaded 0x1BFFFFFFFF = some loaded.regs := by decide

/-- R94 example. -/
theorem test_wrUnmapped12_15_ignored : regsAfter loaded 0x1F00000001 = some loaded.regs := by decide

/-- R95 example. -/
theorem test_rdIn0_answers : answer loaded 0x0000000000 = some (some 0x0310E805) := by decide

/-- R96 example. -/
theorem test_rdIn1_answers : answer loaded 0x0100000000 = some (some 0x04030201) := by decide

/-- R97 example. -/
theorem test_rdLen_answers : answer loaded 0x0200000000 = some (some 0x00000008) := by decide

/-- R98 example. -/
theorem test_rdPort_answers : answer loaded 0x0300000000 = some (some 0x000000CC) := by decide

/-- A11; WDATA ignored, so no decode. -/
theorem test_rdCtrl_answers : answer loaded 0x0400000001 = some (some 0x00000000) := by decide

/-- R100 example, WDATA ignored. -/
theorem test_rdStatus_answers : answer loaded 0x05FFFFFFFF = some (some 0x00000001) := by decide

/-- R101 example. -/
theorem test_rdHumidity_answers : answer loaded 0x0600000000 = some (some 0x00000005) := by decide

/-- R102 example. -/
theorem test_rdRawTemp_answers : answer loaded 0x0700000000 = some (some 0x000000E8) := by decide

/-- R103 example. -/
theorem test_rdTemp_answers : answer loaded 0x0800000000 = some (some 0xFFFFFEF4) := by decide

/-- R104 example. -/
theorem test_rdWind_answers : answer loaded 0x0900000000 = some (some 0x00000031) := by decide

/-- R105 example. -/
theorem test_rdDevid_answers : answer loaded 0x0A00000000 = some (some 0x04030201) := by decide

/-- R106 example. -/
theorem test_rdUnmapped11_answers : answer loaded 0x0B00000000 = some (some 0x00000000) := by decide

/-- R107 example. -/
theorem test_rdUnmapped12_15_answers : answer loaded 0x0F00000000 = some (some 0x00000000) := by decide

/-- R60: a write has no data answer. -/
theorem test_write_has_no_answer : answer { loaded with rdata := some 5 } 0x1000000000 = some none := by decide

/-- V12. -/
theorem test_datapath_vector_V12 :
    decodeFields 0x07523464 0xDEADBEEF = ⟨0x64, 0x234, 0x00000040, 0x075, 0xDEADBEEF⟩ := by decide

/-- V7: bit 11 of rawTemp is not a sign. -/
theorem test_datapath_vector_V7 : (decodeFields 0x00080000 0).temp = 0x0000060C := by decide

/-- R150, R151. -/
theorem test_reset_event :
    (match step { loaded with bus := [.assertReset] } with
      | .next t => some (t.regs, t.inReset)
      | _ => none) = some (Regs.reset, true) := by decide

/-- R105 through the host hook. -/
theorem test_withFetchWord_runs_next :
    (match step (loaded.withFetchWord 40 0x0A00000000) with | .next t => some t.rdata | _ => none) = some (some 0x04030201) := by decide

/-- The words of program P1. -/
theorem test_pseudo_decode8 :
    pseudoDecode8 0x2A 0xE8 0x03 0x00 0x01 0x02 0x03 0x04 8 1 =
      [0x100003E82A, 0x1104030201, 0x1200000008, 0x1300000001, 0x1400000001] := by decide

/-! ## Witnesses: for every statement with hypotheses, a state and operands that meet them -/

/-- A state out of reset with these events to come. -/
def loadedWith (events : List BusEvent) : State := { loaded with bus := events }

theorem loaded_fields : loaded.regs.OutputsHold (decodeFields 0x0310E805 0x04030201) := by
  constructor <;> decide

theorem loaded_reserved : loaded.regs.ReservedZero := by constructor <;> decide

theorem loaded_flags : loaded.regs.valid = true ∧ loaded.regs.short = false := by decide

theorem loadedWith_inv (events : List BusEvent) : (loadedWith events).Inv where
  reserved := loaded_reserved
  flags := fun _ => loaded_flags.2
  cleared := fun h => absurd (loaded_flags.1.symm.trans h) (by decide)
  reading := fun _ => ⟨_, _, loaded_fields⟩
  held := fun h => absurd (show false = true from h) (by decide)

theorem window_base_aligned : Config.punpkBase % 4 = 0 := by
  unfold Config.punpkBase; omega

theorem witness_AssertingResetClearsEveryRegister :
    (∃ (s : State) (rest : _), s.bus = BusEvent.assertReset :: rest) ∧
    (∃ (s : State) (rest : _), s.bus = BusEvent.releaseReset :: rest) :=
  ⟨⟨loadedWith [.assertReset], [], rfl⟩, ⟨loadedWith [.releaseReset], [], rfl⟩⟩

theorem witness_AccessDuringResetIsStuck :
    ∃ (s : State) (q : RequestWord) (rest : _), s.inReset = true ∧ s.bus = .request q :: rest :=
  ⟨{ State.assertReset loaded with bus := [.request 0x0500000000] }, _, _, rfl, rfl⟩

/-- A reading is held and a DECODE that replaces it is pending. -/
theorem witness_EveryStepKeepsTheInvariant : ∃ s t : State, s.Inv ∧ step s = .next t ∧ t.regs.valid = true :=
  ⟨loadedWith [.request 0x1400000001], _, loadedWith_inv _, rfl, by decide⟩

/-- From reset: LEN is written, a DECODE succeeds, and a NOP follows. -/
theorem witness_ReadingIsOfTheLastDecodePerformed :
    (∃ (events : List BusEvent) (k : Nat) (t : State),
      Host.Core.run core k (fromReset events) = .next t ∧ t.regs.valid = true) ∧
    (∃ (events : List BusEvent) (k : Nat) (t : State),
      Host.Core.run core k (fromReset events) = .next t ∧ t.regs.valid = false ∧ t.regs.short = true) :=
  ⟨⟨[.request 0x1200000008, .request 0x1400000001, .request 0x1400000000], 3, _, rfl, by decide⟩,
   ⟨[.request 0x1400000001], 1, _, rfl, by decide, by decide⟩⟩

theorem witness_StepRunsTheDecodedRequest :
    (∃ (s : State) (q : RequestWord) (rest : _), s.inReset = false ∧ s.bus = .request q :: rest) ∧
    (∃ s : State, s.bus = []) :=
  ⟨⟨loadedWith [.request 0x1400000001], _, _, rfl, rfl⟩, ⟨loaded, rfl⟩⟩

/-- The greatest request word. -/
theorem witness_TableWordRunsAsItDecodes : 0x1FFFFFFFFF < 2 ^ 37 := by decide

/-- The first and the last slot of the window. -/
theorem witness_HostWordAccessIsTheRequestOfItsSlot :
    (∃ a : HostAccess, a.bytes = 4 ∧ a.addr % 4 = 0 ∧ Config.punpkBase ≤ a.addr ∧ a.addr ≤ Config.punpkBase + 0x3F ∧
      a.addr = Config.punpkBase) ∧
    (∃ a : HostAccess, a.bytes = 4 ∧ a.addr % 4 = 0 ∧ Config.punpkBase ≤ a.addr ∧ a.addr ≤ Config.punpkBase + 0x3F ∧
      a.addr = Config.punpkBase + 0x3C) := by
  have := window_base_aligned
  exact ⟨⟨⟨true, Config.punpkBase, 4, 0⟩, rfl, this, by simp, by simp, rfl⟩,
    ⟨⟨false, Config.punpkBase + 0x3C, 4, 0⟩, rfl, by simp only; omega, by simp, by simp, rfl⟩⟩

/-- A halfword access, and a word access at an odd address at the window's end. -/
theorem witness_OtherWidthsAndMisalignedAccessesAreRefused :
    (∃ (s : State) (a : HostAccess) (rest : _), s.bus = .access a :: rest ∧ Config.punpkBase ≤ a.addr ∧
      a.addr ≤ Config.punpkBase + 0x3F ∧ a.bytes ≠ 4) ∧
    (∃ (s : State) (a : HostAccess) (rest : _), s.bus = .access a :: rest ∧ Config.punpkBase ≤ a.addr ∧
      a.addr ≤ Config.punpkBase + 0x3F ∧ a.addr % 4 ≠ 0) := by
  have := window_base_aligned
  exact ⟨⟨loadedWith [.access ⟨true, Config.punpkBase, 2, 0⟩], _, _, rfl, by simp, by simp, by simp⟩,
    ⟨loadedWith [.access ⟨true, Config.punpkBase + 0x3F, 4, 0⟩], _, _, rfl, by simp, by simp, by simp only; omega⟩⟩

theorem witness_DecodeInvertsEncode :
    (Instr.wrUnmapped12_15 12 0).wellFormed = true ∧ (Instr.wrUnmapped12_15 15 0xFFFFFFFF).wellFormed = true ∧
    (Instr.decode 0x7FFFFFFF).wellFormed = true := by decide

theorem witness_EveryWordSelectsExactlyItsRow : ∃ r ∈ opcodeTable, r.selectedBy 0x1FFFFFFFFF = true := by decide

theorem witness_CtrlWriteIsSelectedByItsLowBit :
    BitVec.getLsbD (0xFFFFFFFF : Word) 0 = true ∧ BitVec.getLsbD (0xFFFFFFFE : Word) 0 = false := by decide

/-- The pairs of A3, A4 and A13, A14. -/
theorem witness_ReservedWriteBitsHaveNoEffect :
    (reqWE 0x1200000108 = true ∧ reqWE 0x1200000008 = true ∧ reqWA 0x1200000008 = reqWA 0x1200000108 ∧
      reqWA 0x1200000108 = 2 ∧ (reqWDATA 0x1200000108).toNat % 256 = (reqWDATA 0x1200000008).toNat % 256) ∧
    (reqWA 0x13FFFFFFCC = 3 ∧ (reqWDATA 0x13FFFFFFCC).toNat % 256 = (reqWDATA 0x13000000CC).toNat % 256) ∧
    (reqWA 0x14FFFFFFFF = 4 ∧ (reqWDATA 0x14FFFFFFFF).getLsbD 0 = (reqWDATA 0x1400000001).getLsbD 0) := by decide

theorem witness_NoRequestWordIsIllegal :
    (∃ (s : State) (q : RequestWord) (rest : _), s.bus = .request q :: rest) ∧
    (∃ (s : State) (a : HostAccess) (rest : _) (r : Refusal), s.bus = .access a :: rest ∧ Config.punpkBase ≤ a.addr ∧
      a.addr ≤ Config.punpkBase + 0x3F ∧ step s = .refused r) := by
  refine ⟨⟨loadedWith [.request 0], _, _, rfl⟩, loadedWith [.access ⟨true, Config.punpkBase, 1, 0⟩],
    ⟨true, Config.punpkBase, 1, 0⟩, [], .notAWordAccess Config.punpkBase 1, rfl, by simp, by simp, ?_⟩
  simp [step, loadedWith, arrive, interconnect, inWindow, HostAccess.isWord]

theorem witness_RequestRunsNeverStop :
    ∃ s : State, s.inReset = false ∧ s.OnlyRequests ∧ s.bus ≠ [] :=
  ⟨loadedWith [.request 0x1400000001, .request 0x0F00000000], rfl,
    by intro e he; simp [loadedWith] at he; rcases he with rfl | rfl <;> exact ⟨_, rfl⟩, by simp [loadedWith]⟩

/-- NOP, and the writes at WA 5 and 15. -/
theorem witness_NoOpRequestsChangeNoState :
    (reqWE 0x14FFFFFFFE = true ∧ reqWA 0x14FFFFFFFE = 4 ∧ (reqWDATA 0x14FFFFFFFE).getLsbD 0 = false) ∧
    (reqWE 0x1500000000 = true ∧ 5 ≤ (reqWA 0x1500000000).toNat) ∧
    (reqWE 0x1FFFFFFFFF = true ∧ 5 ≤ (reqWA 0x1FFFFFFFFF).toNat) := by decide

/-- A byte 7 of 0x80. -/
theorem witness_WrIn1LoadsPayloadBytesFourToSeven :
    ∃ t, exec (.wrIn1 0x80000000) loaded = .next t ∧ 0x80 ≤ (t.regs.payloadByte 7).toNat :=
  ⟨_, rfl, by decide⟩

theorem witness_WritesToReadOnlyAndUnmappedSlotsAreIgnored :
    ∃ (i : Instr) (s t : State), exec i s = .next t ∧ isDecode i = false :=
  ⟨.wrDevid 1, loaded, _, rfl, rfl⟩

/-- The writes at WA 0 and 15, and other slots. -/
theorem witness_WritesTouchOnlyTheirOwnSlot :
    (reqWE 0x1012345678 = true ∧ isDecode (decode 0x1012345678) = false ∧ (15 : BitVec 4) ≠ reqWA 0x1012345678) ∧
    (reqWE 0x1F12345678 = true ∧ isDecode (decode 0x1F12345678) = false ∧ (0 : BitVec 4) ≠ reqWA 0x1F12345678) := by decide

theorem witness_InputsAndReadingAreIndependent :
    (∃ (i : Instr) (s t : State), exec i s = .next t ∧ isDecode i = false) ∧
    (∃ (i : Instr) (s t : State), exec i s = .next t ∧ isDecode i = true) :=
  ⟨⟨.wrIn0 0xFFFFFFFF, loaded, _, rfl, rfl⟩, ⟨.decode 0, loaded, _, rfl, rfl⟩⟩

theorem witness_EveryReadAnswersItsSlot : reqWE 0x0000000000 = false ∧ reqWE 0x0FFFFFFFFF = false := by decide

theorem witness_InputRegistersReadBack :
    (loadedWith []).Inv ∧ (∃ t, (∀ w, Instr.rdIn0 0 ≠ .rdPort w) ∧ exec (.rdIn0 0) loaded = .next t) :=
  ⟨loadedWith_inv [], _, (fun _ h => by cases h), rfl⟩

theorem witness_RdStatusAnswersTheFlags : (loadedWith []).Inv ∧ undecoded.regs.HasSpecExample :=
  ⟨loadedWith_inv [], rfl, rfl, rfl⟩

/-- A state that holds a reading, one that a failed DECODE left, and the example. -/
theorem witness_OutputRegistersAreAnswered :
    ((loadedWith []).Inv ∧ (loadedWith []).regs.valid = true) ∧
    (∃ s : State, s.Inv ∧ s.regs.valid = false ∧ s.regs.short = true) ∧ undecoded.regs.HasSpecExample := by
  refine ⟨⟨loadedWith_inv [], by decide⟩, ⟨{ undecoded with regs := { undecoded.regs with len := 7, status := 2 } }, ?_,
    by decide, by decide⟩, rfl, rfl, rfl⟩
  exact
    { reserved := by constructor <;> decide
      flags := fun h => absurd h (by decide)
      cleared := fun _ => by constructor <;> rfl
      reading := fun h => absurd h (by decide)
      held := fun h => absurd h (by decide) }

/-- Reads, NOP and ignored writes between two DECODEs. -/
theorem witness_ReadsAndRepeatedDecodesAreIdempotent :
    reqWE 0x0800000000 = false ∧ (reqWE 0x1012345678 = true ∧ isDecode (decode 0x1012345678) = false) ∧
    (∃ (s : State) (d d' : Word) (qs : List RequestWord) (rest : _), s.inReset = false ∧
      d.getLsbD 0 = true ∧ d'.getLsbD 0 = true ∧ (∀ q ∈ qs, reqWE q = true → 4 ≤ (reqWA q).toNat) ∧
      s.bus = .request (wrReq .ctrl d) :: (qs.map .request ++ .request (wrReq .ctrl d') :: rest)) :=
  ⟨by decide, by decide,
   loadedWith [.request (wrReq .ctrl 1), .request 0x0800000000, .request 0x1400000000, .request 0x1812345678,
     .request (wrReq .ctrl 0xFFFFFFFF)],
   1, 0xFFFFFFFF, [0x0800000000, 0x1400000000, 0x1812345678], [], rfl, by decide, by decide,
   by intro q hq; simp only [List.mem_cons, List.not_mem_nil, or_false] at hq
      rcases hq with rfl | rfl | rfl <;> decide, rfl⟩

theorem witness_DecodeReportsTooShortOrLatchesTheReading : undecoded.regs.HasSpecExample := ⟨rfl, rfl, rfl⟩

/-- LEN 7 and LEN 8, the boundary (R120). -/
theorem witness_ShortPayloadProducesNoReading :
    (7 : Word).toNat % 256 < 8 ∧ 8 ≤ loaded.regs.len.toNat % 256 := by decide

theorem witness_TemperatureIsTheExactOffsetInTenths : 8 ≤ loaded.regs.len.toNat % 256 := by decide

theorem witness_TemperatureFitsThirteenBits : ∃ k : Nat, 13 ≤ k ∧ k < 32 := ⟨31, by decide, by decide⟩

theorem witness_WindspeedIsRawWindInTenths : 8 ≤ loaded.regs.len.toNat % 256 := by decide

/-- Bytes that differ in one nibble only (V9, V10). -/
theorem witness_NibblesFeedOneFieldEach :
    BitVec.extractLsb' 0 4 (0xF0 : Byte) = BitVec.extractLsb' 0 4 (0x00 : Byte) ∧
    BitVec.extractLsb' 4 4 (0x0F : Byte) = BitVec.extractLsb' 4 4 (0x00 : Byte) := by decide

/-- A run that goes on, one that faults and one that is refused. -/
theorem witness_PortNeverReachesAnythingElse :
    (∃ t, Host.Core.run core 1 (loadedWith [.request 0x1400000001]) = .next t) ∧
    Host.Core.run core 2 (loadedWith [.assertReset, .request 0x0300000000]) = .fault .accessDuringReset ∧
    Host.Core.run core 1 (loadedWith [.access ⟨true, Config.punpkBase, 1, 0⟩]) =
      .refused (.notAWordAccess Config.punpkBase 1) := by
  refine ⟨⟨_, rfl⟩, rfl, ?_⟩
  have : step (loadedWith [.access ⟨true, Config.punpkBase, 1, 0⟩]) = .refused (.notAWordAccess Config.punpkBase 1) := by
    simp [step, loadedWith, arrive, interconnect, inWindow, HostAccess.isWord]
  have : core.step (loadedWith [.access ⟨true, Config.punpkBase, 1, 0⟩]) = .refused (.notAWordAccess Config.punpkBase 1) := this
  simp only [Host.Core.run, this]

/-- Different outputs and PORT before, equal inputs. -/
theorem witness_DecodeDependsOnItsInputsAlone :
    undecoded.regs.in0 = loaded.regs.in0 ∧ undecoded.regs.in1 = loaded.regs.in1 ∧ undecoded.regs.len = loaded.regs.len ∧
    undecoded.regs.humidity ≠ loaded.regs.humidity := by decide

/-- rawTemp 500, 499 and 0x800 (V5, V6, V7). -/
theorem witness_DecodeCornerCases :
    (byteOf 0x0001F400 1 = 0xF4 ∧ (byteOf 0x0001F400 2).extractLsb' 0 4 = 0x1) ∧
    (byteOf 0x0001F300 1 = 0xF3 ∧ (byteOf 0x0001F300 2).extractLsb' 0 4 = 0x1) ∧
    (byteOf 0x00080000 1 = 0x00 ∧ (byteOf 0x00080000 2).extractLsb' 0 4 = 0x8) := by decide

/-- A DECODE, then a write to each input and a read; with LEN 8 and with LEN 7. -/
theorem witness_ReadingStaysUntilTheNextDecode :
    ∃ (s : State) (q : RequestWord) (qs : List RequestWord) (rest : _), s.inReset = false ∧ isDecode (decode q) = true ∧
      (∀ x ∈ qs, isDecode (decode x) = false) ∧ s.bus = .request q :: (qs.map .request ++ rest) ∧
      8 ≤ s.regs.len.toNat % 256 ∧
      ∃ s' : State, s'.inReset = false ∧ s'.bus = s.bus ∧ s'.regs.len.toNat % 256 < 8 :=
  ⟨loadedWith [.request 0x1400000001, .request 0x10FFFFFFFF, .request 0x1200000000, .request 0x0800000000],
   0x1400000001, [0x10FFFFFFFF, 0x1200000000, 0x0800000000], [], rfl, by decide,
   by intro x hx; simp only [List.mem_cons, List.not_mem_nil, or_false] at hx
      rcases hx with rfl | rfl | rfl <;> decide,
   rfl, by decide,
   { loadedWith [.request 0x1400000001, .request 0x10FFFFFFFF, .request 0x1200000000, .request 0x0800000000] with
     regs := { loaded.regs with len := 7 } }, rfl, rfl, by decide⟩

theorem witness_SkippedInputWritesUseWhatIsThere :
    State.reset.regs.len.toNat % 256 < 8 ∧ 8 ≤ loaded.regs.len.toNat % 256 := by decide

/-- A payload of nine bytes, and the boundary: one of seven and one of eight. -/
theorem witness_HostDecodeRefinesTheSourceFunction :
    (∃ (s : State) (payload : List Byte) (p : Byte) (rest : _), s.inReset = false ∧
      s.bus = (hostDecode payload p).map .request ++ rest ∧ payload.length = 9) ∧
    (∃ (s : State) (payload : List Byte) (p : Byte) (rest : _), s.inReset = false ∧
      s.bus = (hostDecode payload p).map .request ++ rest ∧ payload.length = 7) ∧
    (∃ (s : State) (payload : List Byte) (p : Byte) (rest : _), s.inReset = false ∧
      s.bus = (hostDecode payload p).map .request ++ rest ∧ payload.length = 8) :=
  ⟨⟨loadedWith ((hostDecode [0x2A, 0xE8, 0x03, 0x00, 0x01, 0x02, 0x03, 0x04, 0xFF] 1).map .request ++ []),
     _, _, [], rfl, rfl, rfl⟩,
   ⟨loadedWith ((hostDecode [1, 1, 1, 1, 1, 1, 1] 2).map .request ++ []), _, _, [], rfl, rfl, rfl⟩,
   ⟨loadedWith ((hostDecode [0x2A, 0xE8, 0x03, 0x00, 0x01, 0x02, 0x03, 0x04] 1).map .request ++ []),
     _, _, [], rfl, rfl, rfl⟩⟩

end Sys2Proof.Tests
end

section
/-! The host sequence decode8 against the source's function: what a request out of reset does, what the datapath
computes from the payload bytes, and what STATUS and the outputs then report. -/

namespace Sys2Proof.Machine

/-! ### A request out of reset, and what the host's writes decode to -/

/-- Out of reset the next request is performed, with it taken off the list (20_memory.md R50). -/
theorem step_request {s : State} {q : RequestWord} {rest : List BusEvent} (hr : s.inReset = false)
    (hb : s.bus = .request q :: rest) : step s = exec (decode q) { s with bus := rest } := by
  simp [step, hb, arrive, arriveRequest, hr]

/-- A run whose next request is a write that leaves `r` goes on with `r` in the registers. -/
theorem run_succ_write {s : State} {q : RequestWord} {rest : List BusEvent} {i : Instr} {r : Regs} (k : Nat)
    (hr : s.inReset = false) (hb : s.bus = .request q :: rest) (hd : decode q = i)
    (hw : exec i { s with bus := rest } = acceptWrite r { s with bus := rest }) :
    Host.Core.run core (k + 1) s =
      Host.Core.run core k { s with regs := r, rdata := none, bus := rest } := by
  subst hd
  exact run_succ_next k ((step_request hr hb).trans hw)

@[simp] theorem decode_wrReq_in0 (w : Word) : decode (wrReq .in0 w) = .wrIn0 w := decode_request _ _ _

@[simp] theorem decode_wrReq_in1 (w : Word) : decode (wrReq .in1 w) = .wrIn1 w := decode_request _ _ _

@[simp] theorem decode_wrReq_len (w : Word) : decode (wrReq .len w) = .wrLen w := decode_request _ _ _

@[simp] theorem decode_wrReq_port (w : Word) : decode (wrReq .port w) = .wrPort w := decode_request _ _ _

@[simp] theorem decode_wrReq_ctrl (w : Word) : decode (wrReq .ctrl w) = decodeCtrl w := decode_request _ _ _

/-! ### The bytes of a packed word -/

theorem byteOf_or (v w : Word) (j : Nat) : byteOf (v ||| w) j = byteOf v j ||| byteOf w j :=
  BitVec.extractLsb'_or

/-- A byte shifted to place `i` of a word stands there, and the other places are 0. -/
theorem byteOf_shiftLeft (b : Byte) {i j : Nat} (hj : j < 4) :
    byteOf (zext32 b <<< (8 * i)) j = if i = j then b else 0 := by
  ext k hk
  have hword : 8 * j + k < 32 := by omega
  obtain hlt | rfl | hgt := Nat.lt_trichotomy i j
  · have habove : 8 ≤ 8 * j + k - 8 * i := by omega
    simp [byteOf, zext32, hlt.ne, BitVec.getLsbD_of_ge b _ habove]
  · simp [byteOf, zext32, hk, hword]
  · have hbelow : 8 * j + k < 8 * i := by omega
    simp [byteOf, zext32, hgt.ne', hbelow]

/-- The word the host packs holds its four bytes, least significant first (30_encoding.md R70, 20_memory.md R43). -/
theorem byteOf_packBytes (b0 b1 b2 b3 : Byte) {j : Nat} (hj : j < 4) :
    byteOf (packBytes b0 b1 b2 b3) j = [b0, b1, b2, b3].getD j 0 := by
  have hplaces : packBytes b0 b1 b2 b3 =
      zext32 b3 <<< (8 * 3) ||| zext32 b2 <<< (8 * 2) ||| zext32 b1 <<< (8 * 1) ||| zext32 b0 <<< (8 * 0) := by
    simp [packBytes]
  rw [hplaces]
  simp only [byteOf_or, byteOf_shiftLeft _ hj]
  interval_cases j <;> simp

/-! ### The datapath computes the source's formulas -/

/-- The source's rawTemp formula, on the bytes as numbers (41_decode.md R113). -/
theorem toNat_rawTempField (b1 b2 : Byte) :
    (rawTempField b1 b2).toNat = ((b2.toNat &&& 0x0F) <<< 8) ||| b1.toNat := by
  have hlow : b2.toNat &&& 0x0F = b2.toNat % 2 ^ 4 := Nat.and_two_pow_sub_one_eq_mod _ 4
  rw [rawTempField, BitVec.toNat_append, BitVec.extractLsb'_toNat, Nat.shiftRight_zero, hlow]

/-- The source's rawWind formula, on the bytes as numbers (41_decode.md R114). -/
theorem toNat_rawWindField (b2 b3 : Byte) :
    (rawWindField b2 b3).toNat = ((b3.toNat &&& 0xFF) <<< 4) ||| ((b2.toNat &&& 0xF0) >>> 4) := by
  have hbyte : b3.toNat &&& 0xFF = b3.toNat :=
    (Nat.and_two_pow_sub_one_eq_mod _ 8).trans (Nat.mod_eq_of_lt b3.isLt)
  have hhigh : (b2.toNat &&& 0xF0) >>> 4 = b2.toNat >>> 4 % 2 ^ 4 := by
    rw [Nat.shiftRight_and_distrib]
    exact Nat.and_two_pow_sub_one_eq_mod _ 4
  rw [rawWindField, BitVec.toNat_append, BitVec.extractLsb'_toNat, hbyte, hhigh]

/-- The source's devid formula, on the bytes as numbers (41_decode.md R115). -/
theorem toNat_devidField (b4 b5 b6 b7 : Byte) :
    (devidField b4 b5 b6 b7).toNat =
      (b7.toNat <<< 24) ||| (b6.toNat <<< 16) ||| (b5.toNat <<< 8) ||| b4.toNat := by
  simp only [devidField, BitVec.toNat_append, Nat.shiftLeft_or_distrib, ← Nat.shiftLeft_add]

/-- What a register file's payload bytes give by the source's formulas (41_decode.md R112 to R117). -/
def Regs.sourceReading (r : Regs) : Reading :=
  let b := fun i => (r.payloadByte i).toNat
  { humidity := b 0
    temperature := ((sourceRawTemp b : Rat) - 500) / 10
    windspeed := (sourceRawWind b : Rat) / 10
    devid := sourceDevid b }

theorem decodeFields_humidity_toNat (r : Regs) :
    (decodeFields r.in0 r.in1).humidity.toNat = (r.payloadByte 0).toNat := rfl

theorem decodeFields_rawTemp_toNat (r : Regs) :
    (decodeFields r.in0 r.in1).rawTemp.toNat = sourceRawTemp fun i => (r.payloadByte i).toNat :=
  toNat_rawTempField _ _

theorem decodeFields_wind_toNat (r : Regs) :
    (decodeFields r.in0 r.in1).wind.toNat = sourceRawWind fun i => (r.payloadByte i).toNat :=
  toNat_rawWindField _ _

theorem decodeFields_devid_toNat (r : Regs) :
    (decodeFields r.in0 r.in1).devid.toNat = sourceDevid fun i => (r.payloadByte i).toNat :=
  toNat_devidField _ _ _ _

theorem decodeFields_temp (in0 in1 : Word) :
    (decodeFields in0 in1).temp = tempField (decodeFields in0 in1).rawTemp := rfl

/-- The outputs latched from the datapath stand for the source's reading of IN0 and IN1. -/
theorem latch_decodeFields_reading (r : Regs) : (r.latch (decodeFields r.in0 r.in1)).reading = r.sourceReading := by
  simp [Regs.reading, Regs.sourceReading, tenths, decodeFields_temp, sint_tempField, decodeFields_humidity_toNat,
    decodeFields_rawTemp_toNat, decodeFields_wind_toNat, decodeFields_devid_toNat]

/-! ### What a decode reports -/

/-- A decode of a short LEN reports the source's error and clears the outputs (41_decode.md R120). -/
theorem afterDecode_of_short {r : Regs} (h : r.declaredLength < 8) :
    r.afterDecode.report = some (.error .payloadTooShort) ∧ r.afterDecode.OutputsZero := by
  obtain ⟨_, hd⟩ | ⟨hlong, _⟩ := afterDecode_cases r
  · rw [hd]
    exact ⟨rfl, raisePayloadTooShort_outputsZero r⟩
  · omega

/-- A decode of a LEN of 8 or more reports the source's reading of IN0 and IN1 (41_decode.md R110). -/
theorem afterDecode_report_of_long {r : Regs} (h : 8 ≤ r.declaredLength) :
    r.afterDecode.report = some (.ok r.sourceReading) := by
  obtain ⟨hshort, _⟩ | ⟨_, hd⟩ := afterDecode_cases r
  · omega
  · have hstatus : (r.latch (decodeFields r.in0 r.in1)).status = 1 := rfl
    rw [hd, Regs.report, if_pos hstatus, latch_decodeFields_reading]

/-! ### The host sequence -/

/-- The registers that the four input writes of decode8 leave (30_encoding.md R70). -/
def Regs.hostLoad (r : Regs) (payload : List Byte) (p : Byte) : Regs :=
  (((r.writeIn0 (packBytes (payload.getD 0 0) (payload.getD 1 0) (payload.getD 2 0) (payload.getD 3 0))).writeIn1
    (packBytes (payload.getD 4 0) (payload.getD 5 0) (payload.getD 6 0) (payload.getD 7 0))).writeLen
    (BitVec.ofNat 32 (min payload.length 255))).writePort (zext32 p)

/-- The five requests of decode8 complete and leave a decode of the loaded inputs. -/
theorem run_hostDecode {s : State} {payload : List Byte} {p : Byte} {rest : List BusEvent} (hr : s.inReset = false)
    (hb : s.bus = (hostDecode payload p).map .request ++ rest) :
    Host.Core.run core 5 s =
      .next { s with regs := (s.regs.hostLoad payload p).afterDecode, rdata := none, bus := rest } := by
  calc Host.Core.run core 5 s
    _ = Host.Core.run core 4 _ := run_succ_write 4 hr hb (decode_wrReq_in0 _) rfl
    _ = Host.Core.run core 3 _ := run_succ_write 3 hr rfl (decode_wrReq_in1 _) rfl
    _ = Host.Core.run core 2 _ := run_succ_write 2 hr rfl (decode_wrReq_len _) rfl
    _ = Host.Core.run core 1 _ := run_succ_write 1 hr rfl (decode_wrReq_port _) rfl
    _ = Host.Core.run core 0 _ := run_succ_write 0 hr rfl (decode_wrReq_ctrl _) rfl

/-- LEN declares the payload's length, capped at 255 (10_state.md R25). -/
theorem hostLoad_declaredLength (r : Regs) (payload : List Byte) (p : Byte) :
    (r.hostLoad payload p).declaredLength = min payload.length 255 := by
  simp [declaredLength_eq, Regs.hostLoad]

/-- IN0 and IN1 hold the payload's first eight bytes, 0 for those it lacks (10_state.md R22, R24). -/
theorem hostLoad_payloadByte (r : Regs) (payload : List Byte) (p : Byte) {i : Nat} (hi : i < 8) :
    (r.hostLoad payload p).payloadByte i = payload.getD i 0 := by
  by_cases hlow : i < 4
  · simp only [Regs.payloadByte, Regs.hostLoad, hlow, if_true, Regs.writePort_in0, Regs.writeLen_in0,
      Regs.writeIn1_in0, Regs.writeIn0_in0, byteOf_packBytes _ _ _ _ hlow]
    interval_cases i <;> rfl
  · have hhigh : i - 4 < 4 := by omega
    simp only [Regs.payloadByte, Regs.hostLoad, hlow, if_false, Regs.writePort_in1, Regs.writeLen_in1,
      Regs.writeIn1_in1, byteOf_packBytes _ _ _ _ hhigh]
    interval_cases i <;> rfl

/-- The source's function on a payload of 8 bytes or more is its reading of the loaded inputs. -/
theorem sourceDecode_of_long (r : Regs) {payload : List Byte} (p : Byte) (h : 8 ≤ payload.length) :
    sourceDecode payload p = .ok (r.hostLoad payload p).sourceReading := by
  have hlong : ¬ payload.length < 8 := by omega
  simp [sourceDecode, hlong, Regs.sourceReading, sourceRawTemp, sourceRawWind, sourceDevid, hostLoad_payloadByte]

/-- Settles O49: the five steps leave a decode of the loaded inputs, whose report is the source's in both branches of
the length check. -/
theorem hostDecodeRefinesTheSourceFunction : Obligations.HostDecodeRefinesTheSourceFunction := by
  unfold Obligations.HostDecodeRefinesTheSourceFunction
  intro s payload p rest hr hb
  refine ⟨_, run_hostDecode hr hb, rfl, ?_⟩
  have hlen := hostLoad_declaredLength s.regs payload p
  by_cases hshort : payload.length < 8
  · obtain ⟨hreport, hzero⟩ := afterDecode_of_short (r := s.regs.hostLoad payload p) (by omega)
    have hsource : sourceDecode payload p = .error .payloadTooShort := if_pos hshort
    exact ⟨hsource ▸ hreport, fun _ => hzero⟩
  · have hreport := afterDecode_report_of_long (r := s.regs.hostLoad payload p) (by omega)
    have hsource := sourceDecode_of_long s.regs p (Nat.le_of_not_lt hshort)
    exact ⟨hsource ▸ hreport, fun h => absurd h hshort⟩

end Sys2Proof.Machine
end

section
/-! What a step does to the registers, said once: an operation that is no DECODE keeps them or writes one input
register, a DECODE leaves `Regs.afterDecode`, and asserting reset leaves `Regs.reset`. -/

namespace Sys2Proof.Machine

/-! ### The effect of an operation -/

/-- What an operation other than DECODE can do to the registers: nothing, or one write to an input register
(10_state.md R36). -/
inductive Regs.InputStep (r : Regs) : Regs → Prop
  | keep : r.InputStep r
  | in0 (w : Word) : r.InputStep (r.writeIn0 w)
  | in1 (w : Word) : r.InputStep (r.writeIn1 w)
  | len (w : Word) : r.InputStep (r.writeLen w)
  | port (w : Word) : r.InputStep (r.writePort w)

theorem Regs.InputStep.sameReading {r r' : Regs} (h : r.InputStep r') : r.SameReading r' := by
  cases h <;> exact ⟨rfl, rfl, rfl, rfl, rfl, rfl⟩

/-- LEN and PORT take a zero-extended byte, so a write keeps their reserved bits 0 (40_register_access.md R84, R85). -/
theorem zext32_lowByte_lt (w : Word) : (zext32 (lowByte w)).toNat < 2 ^ 8 := by
  rw [toNat_zext32 (by decide)]
  exact (lowByte w).isLt

theorem Regs.InputStep.len_lt {r r' : Regs} (h : r.InputStep r') (hr : r.len.toNat < 2 ^ 8) :
    r'.len.toNat < 2 ^ 8 := by
  cases h with
  | len w => exact zext32_lowByte_lt w
  | keep | in0 | in1 | port => exact hr

theorem Regs.InputStep.port_lt {r r' : Regs} (h : r.InputStep r') (hr : r.port.toNat < 2 ^ 8) :
    r'.port.toNat < 2 ^ 8 := by
  cases h with
  | port w => exact zext32_lowByte_lt w
  | keep | in0 | in1 | len => exact hr

theorem exec_completes (i : Instr) (s : State) : ∃ t, exec i s = .next t := by
  cases i <;> exact ⟨_, rfl⟩

/-- An operation steps the inputs, or is a DECODE. -/
theorem exec_regs_cases {i : Instr} {s t : State} (h : exec i s = .next t) :
    (isDecode i = false ∧ s.regs.InputStep t.regs) ∨ (isDecode i = true ∧ t.regs = s.regs.afterDecode) := by
  cases i with
  | decode => cases h; exact .inr ⟨rfl, rfl⟩
  | wrIn0 w => cases h; exact .inl ⟨rfl, .in0 w⟩
  | wrIn1 w => cases h; exact .inl ⟨rfl, .in1 w⟩
  | wrLen w => cases h; exact .inl ⟨rfl, .len w⟩
  | wrPort w => cases h; exact .inl ⟨rfl, .port w⟩
  | _ => cases h; exact .inl ⟨rfl, .keep⟩

theorem exec_inputStep {i : Instr} {s t : State} (hi : isDecode i = false) (h : exec i s = .next t) :
    s.regs.InputStep t.regs := by
  obtain ⟨_, hstep⟩ | ⟨hdec, _⟩ := exec_regs_cases h
  · exact hstep
  · exact absurd (hi.symm.trans hdec) Bool.false_ne_true

theorem exec_afterDecode {i : Instr} {s t : State} (hi : isDecode i = true) (h : exec i s = .next t) :
    t.regs = s.regs.afterDecode := by
  obtain ⟨hno, _⟩ | ⟨_, hregs⟩ := exec_regs_cases h
  · exact absurd (hno.symm.trans hi) Bool.false_ne_true
  · exact hregs

/-! ### A decode's outcome -/

/-- A decode changes no input register (41_decode.md R110). -/
theorem afterDecode_sameInputs (r : Regs) : r.SameInputs r.afterDecode := by
  obtain ⟨_, h⟩ | ⟨_, h⟩ := afterDecode_cases r <;> rw [h] <;> exact ⟨rfl, rfl, rfl, rfl⟩

/-- A decode of a short LEN reports SHORT alone (41_decode.md R120). -/
theorem afterDecode_status_of_short {r : Regs} (h : r.declaredLength < 8) : r.afterDecode.status = 2 := by
  obtain ⟨_, hd⟩ | ⟨hlong, _⟩ := afterDecode_cases r
  · rw [hd]
    rfl
  · omega

/-- A decode of a LEN of 8 or more reports VALID alone and holds the fields of IN0 and IN1. -/
theorem afterDecode_reading_of_long {r : Regs} (h : 8 ≤ r.declaredLength) :
    r.afterDecode.status = 1 ∧ r.afterDecode.OutputsHold (decodeFields r.in0 r.in1) := by
  obtain ⟨hshort, _⟩ | ⟨_, hd⟩ := afterDecode_cases r
  · omega
  · rw [hd]
    exact ⟨rfl, latch_outputsHold r _⟩

/-! ### The effect of a step -/

/-- The next event decides whether a step performs a DECODE. -/
theorem performsDecode_iff {s : State} {e : BusEvent} {rest : List BusEvent} {q : RequestWord}
    (hb : s.bus = e :: rest) (ha : arrive e { s with bus := rest } = .perform q) :
    PerformsDecode s ↔ isDecode (decode q) = true := by
  constructor
  · rintro ⟨e', rest', q', hb', ha', hq'⟩
    obtain ⟨rfl, rfl⟩ := List.cons.inj (hb.symm.trans hb')
    cases ha.symm.trans ha'
    exact hq'
  · exact fun hq => ⟨e, rest, q, hb, ha, hq⟩

theorem not_performsDecode_of_settle {s : State} {e : BusEvent} {rest : List BusEvent} {r : Result}
    (hb : s.bus = e :: rest) (ha : arrive e { s with bus := rest } = .settle r) : ¬ PerformsDecode s := by
  rintro ⟨e', rest', q, hb', ha', _⟩
  obtain ⟨rfl, rfl⟩ := List.cons.inj (hb.symm.trans hb')
  cases ha.symm.trans ha'

theorem not_performsDecode_of_idle {s : State} (hb : s.bus = []) : ¬ PerformsDecode s := by
  rintro ⟨e, rest, q, hb', _⟩
  cases hb.symm.trans hb'

/-- A step that goes on performs no DECODE and steps the inputs at most, performs a DECODE, or asserts reset. -/
theorem step_regs_cases {s t : State} (h : step s = .next t) :
    (¬ PerformsDecode s ∧ s.regs.InputStep t.regs ∧ (t = s ∨ t.inReset = false)) ∨
    (PerformsDecode s ∧ t.regs = s.regs.afterDecode ∧ t.inReset = false) ∨
    (¬ PerformsDecode s ∧ t.regs = Regs.reset) := by
  obtain ⟨hb, rfl⟩ | ⟨e, rest, q, hb, hr, ha, hx⟩ | ⟨rest, hb, rfl⟩ | ⟨rest, hb, rfl⟩ := step_cases h
  · exact .inl ⟨not_performsDecode_of_idle hb, .keep, .inl rfl⟩
  · obtain ⟨hreset, _⟩ := exec_keeps_interface hx
    have hreset : t.inReset = false := hreset.trans hr
    obtain ⟨hno, hstep⟩ | ⟨hdec, hregs⟩ := exec_regs_cases hx
    · exact .inl ⟨by simp [performsDecode_iff hb ha, hno], hstep, .inr hreset⟩
    · exact .inr (.inl ⟨(performsDecode_iff hb ha).2 hdec, hregs, hreset⟩)
  · exact .inr (.inr ⟨not_performsDecode_of_settle hb rfl, rfl⟩)
  · exact .inl ⟨not_performsDecode_of_settle hb rfl, .keep, .inr rfl⟩

/-- Settles O28: every operation but DECODE steps the inputs at most, and a decode keeps them. -/
theorem inputsAndReadingAreIndependent : Obligations.InputsAndReadingAreIndependent := by
  unfold Obligations.InputsAndReadingAreIndependent
  intro i s t h
  exact ⟨fun hi => (exec_inputStep hi h).sameReading,
    fun hi => exec_afterDecode hi h ▸ afterDecode_sameInputs s.regs⟩

end Sys2Proof.Machine
end

section
/-! The state invariant holds at reset and every step keeps it (10_state.md R34). -/

namespace Sys2Proof.Machine

theorem Regs.SameReading.valid {r r' : Regs} (h : r.SameReading r') : r'.valid = r.valid :=
  congrArg (BitVec.getLsbD · 0) h.status

theorem Regs.SameReading.short {r r' : Regs} (h : r.SameReading r') : r'.short = r.short :=
  congrArg (BitVec.getLsbD · 1) h.status

/-- Stepping the inputs keeps the reserved bits 0. -/
theorem Regs.InputStep.reservedZero {r r' : Regs} (h : r.InputStep r') (hr : r.ReservedZero) : r'.ReservedZero where
  len := h.len_lt hr.len
  port := h.port_lt hr.port
  status := h.sameReading.status ▸ hr.status
  humidity := h.sameReading.humidity ▸ hr.humidity
  rawTemp := h.sameReading.rawTemp ▸ hr.rawTemp
  wind := h.sameReading.wind ▸ hr.wind

/-- A decode writes STATUS words, zeros and zero-extended fields, so it keeps the reserved bits 0. -/
theorem afterDecode_reservedZero {r : Regs} (hr : r.ReservedZero) : r.afterDecode.ReservedZero := by
  obtain ⟨_, h⟩ | ⟨_, h⟩ := afterDecode_cases r <;> rw [h]
  · exact ⟨hr.len, hr.port, statusWord_lt _ _, Nat.two_pow_pos 8, Nat.two_pow_pos 12, Nat.two_pow_pos 12⟩
  · have hzext {n : Nat} (hn : n ≤ 32) (v : BitVec n) : (zext32 v).toNat < 2 ^ n := by
      rw [toNat_zext32 hn]; exact v.isLt
    exact ⟨hr.len, hr.port, statusWord_lt _ _, hzext (by decide) _, hzext (by decide) _, hzext (by decide) _⟩

/-- Reset values meet the invariant, with reset asserted or released (70_reset_and_hazards.md R150). -/
theorem inv_of_reset {s : State} (h : s.regs = Regs.reset) : s.Inv where
  reserved := by rw [h]; constructor <;> decide
  flags := by simp [h]
  cleared := fun _ => by rw [h]; exact ⟨rfl, rfl, rfl, rfl, rfl⟩
  reading := by simp [h]
  held := fun _ => h

/-- A state with a decode's registers, out of reset, meets the invariant when the decode began with reserved bits 0. -/
theorem inv_of_afterDecode {r : Regs} {s : State} (hr : r.ReservedZero) (h : s.regs = r.afterDecode)
    (hout : s.inReset = false) : s.Inv := by
  have hreserved : s.regs.ReservedZero := h ▸ afterDecode_reservedZero hr
  have hheld : s.inReset = true → s.regs = Regs.reset := by simp [hout]
  obtain ⟨_, hd⟩ | ⟨_, hd⟩ := afterDecode_cases r <;> rw [hd] at h
  · exact ⟨hreserved, by simp [h], fun _ => h ▸ raisePayloadTooShort_outputsZero r, by simp [h], hheld⟩
  · exact ⟨hreserved, by simp [h], by simp [h], fun _ => ⟨r.in0, r.in1, h ▸ latch_outputsHold r _⟩, hheld⟩

/-- Stepping the inputs out of reset keeps the invariant: each clause about the reading speaks of the same reading. -/
theorem State.Inv.of_inputStep {s t : State} (hs : s.Inv) (h : s.regs.InputStep t.regs) (hout : t.inReset = false) :
    t.Inv := by
  have hsame := h.sameReading
  refine ⟨h.reservedZero hs.reserved, ?_, ?_, ?_, by simp [hout]⟩
  · rw [hsame.valid, hsame.short]
    exact hs.flags
  · rw [hsame.valid]
    exact fun hv => hsame.outputsZero (hs.cleared hv)
  · rw [hsame.valid]
    intro hv
    obtain ⟨in0, in1, hf⟩ := hs.reading hv
    exact ⟨in0, in1, hsame.outputsHold hf⟩

theorem step_inv {s t : State} (hs : s.Inv) (h : step s = .next t) : t.Inv := by
  obtain ⟨_, hstep, rfl | hout⟩ | ⟨_, hregs, hout⟩ | ⟨_, hregs⟩ := step_regs_cases h
  · exact hs
  · exact hs.of_inputStep hstep hout
  · exact inv_of_afterDecode hs.reserved hregs hout
  · exact inv_of_reset hregs

/-- Every state that a run reaches from one that meets the invariant meets it. -/
theorem run_inv {s t : State} (hs : s.Inv) (k : Nat) (h : Host.Core.run core k s = .next t) : t.Inv := by
  induction k generalizing t with
  | zero => cases h; exact hs
  | succ k ih =>
    obtain ⟨u, hu, hstep⟩ := run_init k h
    exact step_inv (ih hu) hstep

/-- Settles O4: the reset state holds the reset values. -/
theorem resetStateMeetsTheInvariant : Obligations.ResetStateMeetsTheInvariant := by
  unfold Obligations.ResetStateMeetsTheInvariant
  exact inv_of_reset rfl

/-- Settles O5, by what a step can do to the registers. -/
theorem everyStepKeepsTheInvariant : Obligations.EveryStepKeepsTheInvariant := by
  unfold Obligations.EveryStepKeepsTheInvariant
  exact fun _ _ hs h => step_inv hs h

end Sys2Proof.Machine
end

section
/-! Over any run from reset the reading is that of the last DECODE performed (10_state.md R34 (c)). -/

namespace Sys2Proof.Machine

/-- Of the first `k` steps of the run from `s`, the one from `u` is the last that performs a DECODE. -/
def LastDecode (s : State) (k : Nat) (u : State) : Prop :=
  ∃ j, j < k ∧ Host.Core.run core j s = .next u ∧ PerformsDecode u ∧
    ∀ (j' : Nat) (u' : State), j < j' → j' < k → Host.Core.run core j' s = .next u' → ¬ PerformsDecode u'

/-- A step that performs a DECODE is the last one so far. -/
theorem lastDecode_of_performs {s u : State} {k : Nat} (hrun : Host.Core.run core k s = .next u)
    (hu : PerformsDecode u) : LastDecode s (k + 1) u :=
  ⟨k, k.lt_succ_self, hrun, hu, fun j' _ hlt hle => by omega⟩

/-- A step that performs no DECODE leaves the last one what it was. -/
theorem LastDecode.succ {s u v : State} {k : Nat} (h : LastDecode s k u) (hrun : Host.Core.run core k s = .next v)
    (hv : ¬ PerformsDecode v) : LastDecode s (k + 1) u := by
  obtain ⟨j, hj, hu, hdec, hbetween⟩ := h
  refine ⟨j, by omega, hu, hdec, fun j' u' hlt hle hu' => ?_⟩
  obtain hold | rfl := Nat.lt_succ_iff_lt_or_eq.1 hle
  · exact hbetween j' u' hlt hold hu'
  · cases hrun.symm.trans hu'
    exact hv

/-- A decode that ends with VALID = 1 latched the fields of its inputs. -/
theorem outputsHold_of_afterDecode_valid {r : Regs} (h : r.afterDecode.valid = true) :
    r.afterDecode.OutputsHold (decodeFields r.in0 r.in1) := by
  obtain ⟨_, hd⟩ | ⟨_, hd⟩ := afterDecode_cases r <;> rw [hd] at h ⊢
  · simp at h
  · exact latch_outputsHold r _

/-- While VALID is 1 a run from VALID = 0 has performed a DECODE, and the outputs are those of the last one. -/
theorem run_outputs_of_lastDecode {s t : State} (hs : s.regs.valid = false) (k : Nat)
    (h : Host.Core.run core k s = .next t) (ht : t.regs.valid = true) :
    ∃ u, LastDecode s k u ∧ t.regs.OutputsHold (decodeFields u.regs.in0 u.regs.in1) := by
  induction k generalizing t with
  | zero => cases h; simp [hs] at ht
  | succ k ih =>
    obtain ⟨v, hv, hstep⟩ := run_init k h
    obtain ⟨hno, hinput, _⟩ | ⟨hdec, hregs, _⟩ | ⟨_, hregs⟩ := step_regs_cases hstep
    · have hsame := hinput.sameReading
      obtain ⟨u, hlast, hout⟩ := ih hv (hsame.valid.symm.trans ht)
      exact ⟨u, hlast.succ hv hno, hsame.outputsHold hout⟩
    · rw [hregs] at ht ⊢
      exact ⟨v, lastDecode_of_performs hv hdec, outputsHold_of_afterDecode_valid ht⟩
    · simp [hregs] at ht

/-- Settles O6: (a) and (b) are clauses of the invariant, (c) goes by induction on the steps of the run. -/
theorem readingIsOfTheLastDecodePerformed : Obligations.ReadingIsOfTheLastDecodePerformed := by
  unfold Obligations.ReadingIsOfTheLastDecodePerformed
  intro events k t h
  have hinv : t.Inv := run_inv (inv_of_reset rfl) k h
  refine ⟨hinv.flags, hinv.cleared, fun ht => ?_⟩
  obtain ⟨u, ⟨j, hj, hu, hdec, hbetween⟩, hout⟩ := run_outputs_of_lastDecode reset_valid k h ht
  exact ⟨j, u, hj, hu, hdec, hbetween, hout⟩

end Sys2Proof.Machine
end

section
/-! PORT reaches no other register, no reset level and no pending event over any run (10_state.md R26, 41_decode.md
R121): two states that agree but for PORT and the last answer stay so, and stop alike. -/

namespace Sys2Proof.Machine

/-- Two states agree in everything but PORT and the answer of the last access. -/
structure State.AgreeButPort (s s' : State) : Prop where
  regs : ∃ p, s'.regs = { s.regs with port := p }
  inReset : s'.inReset = s.inReset
  bus : s'.bus = s.bus

/-- Two accesses end alike: in the same fault or refusal, or in states that agree but for PORT. -/
inductive EndAlike : Result → Result → Prop
  | next {t t' : State} (h : t.AgreeButPort t') : EndAlike (.next t) (.next t')
  | fault (r : Fault) : EndAlike (.fault r) (.fault r)
  | refused (r : Refusal) : EndAlike (.refused r) (.refused r)

theorem EndAlike.exists_next {t : State} {o : Result} (h : EndAlike (.next t) o) :
    ∃ t', o = .next t' ∧ t.AgreeButPort t' := by
  cases h with
  | next h => exact ⟨_, rfl, h⟩

theorem EndAlike.eq_fault {r : Fault} {o : Result} (h : EndAlike (.fault r) o) : o = .fault r := by
  cases h
  rfl

theorem EndAlike.eq_refused {r : Refusal} {o : Result} (h : EndAlike (.refused r) o) : o = .refused r := by
  cases h
  rfl

theorem State.agreeButPort_withPort (s : State) (p : Word) : s.AgreeButPort (s.withPort p) :=
  ⟨⟨p, rfl⟩, rfl, rfl⟩

theorem State.AgreeButPort.withBus {s s' : State} (h : s.AgreeButPort s') (rest : List BusEvent) :
    State.AgreeButPort { s with bus := rest } { s' with bus := rest } :=
  ⟨h.regs, h.inReset, rfl⟩

theorem State.AgreeButPort.assertReset {s s' : State} (h : s.AgreeButPort s') :
    s.assertReset.AgreeButPort s'.assertReset :=
  ⟨⟨Regs.reset.port, rfl⟩, rfl, h.bus⟩

theorem State.AgreeButPort.releaseReset {s s' : State} (h : s.AgreeButPort s') :
    s.releaseReset.AgreeButPort s'.releaseReset :=
  ⟨h.regs, rfl, h.bus⟩

/-- Neither the length check nor the datapath reads PORT. -/
theorem afterDecode_setPort (r : Regs) (p : Word) :
    ({ r with port := p } : Regs).afterDecode = { r.afterDecode with port := p } := by
  have hcheck : ({ r with port := p } : Regs).tooShort = r.tooShort := rfl
  unfold Regs.afterDecode
  rw [hcheck]
  split <;> rfl

/-- No operation lets PORT decide anything but PORT and its own answer. -/
theorem exec_endAlike (i : Instr) {s s' : State} (h : s.AgreeButPort s') : EndAlike (exec i s) (exec i s') := by
  obtain ⟨regs', inReset', rdata', bus'⟩ := s'
  obtain ⟨⟨p, rfl⟩, rfl, rfl⟩ := h
  cases i with
  | decode => exact .next ⟨⟨p, afterDecode_setPort s.regs p⟩, rfl, rfl⟩
  | wrPort w => exact .next ⟨⟨zext32 (lowByte w), rfl⟩, rfl, rfl⟩
  | _ => exact .next ⟨⟨p, rfl⟩, rfl, rfl⟩

/-- What one arrival and another lead to is alike: the same request performed, or ends alike. -/
inductive ArriveAlike : Arrival → Arrival → Prop
  | perform (q : RequestWord) : ArriveAlike (.perform q) (.perform q)
  | settle {r r' : Result} (h : EndAlike r r') : ArriveAlike (.settle r) (.settle r')

theorem arriveRequest_alike (q : RequestWord) {s s' : State} (h : s.AgreeButPort s') :
    ArriveAlike (arriveRequest q s) (arriveRequest q s') := by
  unfold arriveRequest
  rw [h.inReset]
  split
  · exact .settle (.fault _)
  · exact .perform q

theorem arrive_alike (e : BusEvent) {s s' : State} (h : s.AgreeButPort s') :
    ArriveAlike (arrive e s) (arrive e s') := by
  cases e with
  | request q => exact arriveRequest_alike q h
  | access a =>
    simp only [arrive]
    cases interconnect a with
    | ok q => exact arriveRequest_alike q h
    | error r => exact .settle (.refused r)
  | assertReset => exact .settle (.next h.assertReset)
  | releaseReset => exact .settle (.next h.releaseReset)

theorem step_endAlike {s s' : State} (h : s.AgreeButPort s') : EndAlike (step s) (step s') := by
  unfold step
  rw [h.bus]
  cases s.bus with
  | nil => exact .next h
  | cons e rest =>
    have halike := arrive_alike e (h.withBus rest)
    dsimp only
    generalize arrive e { s with bus := rest } = a, arrive e { s' with bus := rest } = a' at halike ⊢
    cases halike with
    | perform q => exact exec_endAlike (decode q) (h.withBus rest)
    | settle hend => exact hend

theorem run_endAlike (k : Nat) {s s' : State} (h : s.AgreeButPort s') :
    EndAlike (Host.Core.run core k s) (Host.Core.run core k s') := by
  induction k generalizing s s' with
  | zero => exact .next h
  | succ k ih =>
    have hstep := step_endAlike h
    generalize hs : step s = o, hs' : step s' = o' at hstep
    cases hstep with
    | next ht => rw [run_succ_next k hs, run_succ_next k hs']; exact ih ht
    | fault r => rw [run_succ_fault k hs, run_succ_fault k hs']; exact .fault r
    | refused r => rw [run_succ_refused k hs, run_succ_refused k hs']; exact .refused r

/-- Settles O44: the two runs end alike, which each clause reads off. -/
theorem portNeverReachesAnythingElse : Obligations.PortNeverReachesAnythingElse := by
  unfold Obligations.PortNeverReachesAnythingElse
  intro k s p
  have halike := run_endAlike k (s.agreeButPort_withPort p)
  refine ⟨fun t ht => ?_, fun r hr => ?_, fun r hr => ?_⟩
  · obtain ⟨t', ht', ⟨p', hp'⟩, hreset, hbus⟩ := (ht ▸ halike).exists_next
    exact ⟨t', p', ht', hp', hreset, hbus⟩
  · exact (hr ▸ halike).eq_fault
  · exact (hr ▸ halike).eq_refused

end Sys2Proof.Machine
end

section
/-! A request word is the word of the operation it selects, so a row's mask and match decide the operation
(30_encoding.md R61). -/

namespace Sys2Proof

theorem encode_decodeCtrl (d : Word) : encode (decodeCtrl d) = request true 4 d := by
  have hsplit := ctrl_split d
  unfold decodeCtrl
  split
  case isTrue h => rw [h] at hsplit; exact congrArg (request true 4) hsplit
  case isFalse h => rw [Bool.eq_false_of_not_eq_true h] at hsplit; exact congrArg (request true 4) hsplit

theorem encode_decodeWrite (wa : BitVec 4) (d : Word) : encode (decodeWrite wa d) = request true wa d := by
  unfold decodeWrite
  split
  case h_5 h => rw [encode_decodeCtrl, show wa = 4 from BitVec.eq_of_toNat_eq h]
  case h_13 => rfl
  all_goals
    next h => exact congrArg (request true · d) (BitVec.eq_of_toNat_eq h.symm)

theorem encode_decodeRead (wa : BitVec 4) (d : Word) : encode (decodeRead wa d) = request false wa d := by
  unfold decodeRead
  split
  case h_13 => rfl
  all_goals
    next h => exact congrArg (request false · d) (BitVec.eq_of_toNat_eq h.symm)

theorem encode_decode (q : RequestWord) : encode (decode q) = q := by
  refine Eq.trans ?_ (request_fields q)
  unfold decode
  cases reqWE q
  · exact encode_decodeRead _ _
  · exact encode_decodeWrite _ _

theorem decode_injective : Function.Injective decode :=
  Function.LeftInverse.injective encode_decode

/-- A row that fixes WE and WA selects exactly the words of the operation at that WE and WA (30_encoding.md R61). -/
theorem slot_selects_iff_decode_eq {q : RequestWord} {we : Bool} {wa : BitVec 4} {i : Instr}
    (hi : decode (request we wa (reqWDATA q)) = i) : q &&& 0x1F00000000 = request we wa 0 ↔ decode q = i := by
  rw [← hi, decode_injective.eq_iff]
  constructor
  · intro h
    rw [← request_fields q, Laws.slot_selects] at h
    have hwe : reqWE q = we := by simpa only [reqWE_request] using congrArg reqWE h
    have hwa : reqWA q = wa := by simpa only [reqWA_request] using congrArg reqWA h
    rw [← hwe, ← hwa, request_fields]
  · intro h
    rw [h, Laws.slot_selects]

end Sys2Proof
end

section
/-! RD.STATUS answers the flags, which tell how the last decode ended (10_state.md R28, 40_register_access.md R100). -/

namespace Sys2Proof.Machine

/-- A STATUS word without reserved bits and without both flags is not 3, and its bits 31:2 are 0 (10_state.md R28). -/
theorem State.Inv.status {s : State} (h : s.Inv) : s.regs.status.extractLsb' 2 30 = 0 ∧ s.regs.status ≠ 3 := by
  refine ⟨?_, fun h3 => ?_⟩
  · have hlt := h.reserved.status
    apply BitVec.eq_of_toNat_eq
    rw [BitVec.extractLsb'_toNat, Nat.shiftRight_eq_div_pow, Nat.div_eq_of_lt hlt]
    rfl
  · have hflags := h.flags
    simp [Regs.valid, Regs.short, h3] at hflags

/-- After a DECODE RD.STATUS answers 2 for a short LEN and 1 for any other. -/
theorem decode_then_rdStatus (reserved : BitVec 31) (w : Word) (s : State) :
    ∃ t, exec (.decode reserved) s = .next t ∧ exec (.rdStatus w) t =
      .next { t with rdata := some (if s.regs.len.toNat % 256 < 8 then 0x00000002 else 0x00000001) } := by
  refine ⟨_, rfl, ?_⟩
  have hlen := declaredLength_eq s.regs
  have hstatus : s.regs.afterDecode.status = if s.regs.len.toNat % 256 < 8 then 2 else 1 := by
    split
    · exact afterDecode_status_of_short (by omega)
    · exact (afterDecode_reading_of_long (by omega)).1
  rw [← hstatus]
  rfl

/-- Settles O32: the row fixes WE and WA, the invariant bounds STATUS, and both outcomes of a decode name their word. -/
theorem rdStatusAnswersTheFlags : Obligations.RdStatusAnswersTheFlags := by
  unfold Obligations.RdStatusAnswersTheFlags
  refine ⟨fun q => ?_, fun w s => ⟨rfl, State.Inv.status⟩, fun w => rfl, decode_then_rdStatus, fun reserved w s h => ?_⟩
  · exact slot_selects_iff_decode_eq (decode_request false 5 (reqWDATA q))
  · obtain ⟨_, _, hlen⟩ := h
    have h := decode_then_rdStatus reserved w s
    rw [hlen] at h
    exact h

end Sys2Proof.Machine
end

section
/-! The fields of a reading are slices of IN0 and IN1 (41_decode.md R118). -/

namespace Sys2Proof.Machine

/-- A slice of a byte is a slice of the word (20_memory.md R43). -/
theorem extractLsb'_byteOf (w : Word) (j : Nat) {i n : Nat} (h : i + n ≤ 8) :
    (byteOf w j).extractLsb' i n = w.extractLsb' (8 * j + i) n := by
  apply BitVec.eq_of_getLsbD_eq
  intro k hk
  have hbyte : i + k < 8 := by omega
  simp [byteOf, hk, hbyte, Nat.add_assoc]

theorem rawTempField_byteOf (w : Word) : rawTempField (byteOf w 1) (byteOf w 2) = w.extractLsb' 8 12 := by
  rw [rawTempField, extractLsb'_byteOf w 2 (by decide)]
  exact BitVec.extractLsb'_append_extractLsb'_eq_extractLsb' rfl

theorem rawWindField_byteOf (w : Word) : rawWindField (byteOf w 2) (byteOf w 3) = w.extractLsb' 20 12 := by
  rw [rawWindField, extractLsb'_byteOf w 2 (by decide)]
  exact BitVec.extractLsb'_append_extractLsb'_eq_extractLsb' rfl

theorem devidField_byteOf (w : Word) : devidField (byteOf w 0) (byteOf w 1) (byteOf w 2) (byteOf w 3) = w := by
  have h32 : byteOf w 3 ++ byteOf w 2 = w.extractLsb' 16 16 := BitVec.extractLsb'_append_extractLsb'_eq_extractLsb' rfl
  have h321 : w.extractLsb' 16 16 ++ byteOf w 1 = w.extractLsb' 8 24 :=
    BitVec.extractLsb'_append_extractLsb'_eq_extractLsb' rfl
  have h3210 : w.extractLsb' 8 24 ++ byteOf w 0 = w.extractLsb' 0 32 :=
    BitVec.extractLsb'_append_extractLsb'_eq_extractLsb' rfl
  rw [devidField, h32, h321, h3210, BitVec.extractLsb'_eq_self]

/-- Settles O38: each field puts adjacent slices together again. -/
theorem fieldsAreContiguousSlices : Obligations.FieldsAreContiguousSlices := by
  unfold Obligations.FieldsAreContiguousSlices
  intro in0 in1
  exact ⟨rfl, rawTempField_byteOf in0, rawWindField_byteOf in0, devidField_byteOf in1⟩

end Sys2Proof.Machine
end

section
/-! A reading stays through requests that are no DECODE (10_state.md R36). -/

namespace Sys2Proof.Machine

/-- Requests that are no DECODE complete and leave the reading (10_state.md R36). -/
theorem run_requests_sameReading (qs : List RequestWord) {s : State} {rest : List BusEvent} (hr : s.inReset = false)
    (hqs : ∀ x ∈ qs, isDecode (decode x) = false) (hb : s.bus = qs.map .request ++ rest) :
    ∃ t : State, Host.Core.run core qs.length s = .next t ∧ t.bus = rest ∧ s.regs.SameReading t.regs := by
  induction qs generalizing s with
  | nil => exact ⟨s, rfl, hb, .refl _⟩
  | cons q qs ih =>
    obtain ⟨u, hu⟩ := exec_completes (decode q) { s with bus := qs.map .request ++ rest }
    obtain ⟨hureset, hubus⟩ := exec_keeps_interface hu
    obtain ⟨t, ht, hrest, hsame⟩ := ih (hureset.trans hr) (fun x hx => hqs x (.tail q hx)) hubus
    refine ⟨t, ?_, hrest, ((exec_inputStep (hqs q (.head qs)) hu).sameReading).trans hsame⟩
    rw [List.length_cons, run_succ_next _ ((step_request hr hb).trans hu)]
    exact ht

/-- Settles O47: the first step is the DECODE, and the requests after it keep its reading. -/
theorem readingStaysUntilTheNextDecode : Obligations.ReadingStaysUntilTheNextDecode := by
  unfold Obligations.ReadingStaysUntilTheNextDecode
  intro s q qs rest hr hq hqs hb
  obtain ⟨u, hu⟩ := exec_completes (decode q) { s with bus := qs.map .request ++ rest }
  obtain ⟨hureset, hubus⟩ := exec_keeps_interface hu
  have hregs := exec_afterDecode hq hu
  obtain ⟨t, ht, hrest, hsame⟩ := run_requests_sameReading qs (hureset.trans hr) hqs hubus
  rw [hregs] at hsame
  rw [← declaredLength_eq]
  refine ⟨t, (run_succ_next _ ((step_request hr hb).trans hu)).trans ht, hrest, fun hshort => ?_, fun hlong => ?_⟩
  · exact ⟨hsame.status.trans (afterDecode_status_of_short hshort), hsame.outputsZero (afterDecode_of_short hshort).2⟩
  · obtain ⟨hstatus, hfields⟩ := afterDecode_reading_of_long hlong
    exact ⟨hsame.status.trans hstatus, hsame.outputsHold hfields⟩

end Sys2Proof.Machine
end

section
/-! A read answers its slot of the address map (20_memory.md R47, R48; 40_register_access.md R81). -/

namespace Sys2Proof.Machine

/-- The read column of the opcode map and the address map agree, slot by slot. -/
theorem exec_decodeRead (wa : BitVec 4) (d : Word) (s : State) :
    exec (decodeRead wa d) s = answerRead (s.regs.slotValue wa) s := by
  unfold decodeRead Regs.slotValue
  generalize wa.toNat = slot
  match slot with
  | 0 | 1 | 2 | 3 => rfl
  | 4 => rfl
  | 5 | 6 | 7 | 8 | 9 | 10 => rfl
  | 11 => rfl
  | _ + 12 => rfl

/-- Settles O29: a read request decodes in the read column. -/
theorem everyReadAnswersItsSlot : Obligations.EveryReadAnswersItsSlot := by
  unfold Obligations.EveryReadAnswersItsSlot
  intro q s hread
  have hdecode : decode q = decodeRead (reqWA q) (reqWDATA q) := by simp [decode, hread]
  rw [hdecode, exec_decodeRead]
  rfl

end Sys2Proof.Machine
end

section
/-! The port performs the next request, or holds the state (20_memory.md R50, 60_exceptions.md R142). -/

namespace Sys2Proof.Machine

/-- With nothing pending the machine holds its state (60_exceptions.md R142). -/
theorem step_of_bus_nil {s : State} (hb : s.bus = []) : step s = .next s := by
  simp only [step, hb, idle]

/-- Settles O7, by the steps of a request out of reset and of an empty port. -/
theorem stepRunsTheDecodedRequest : Obligations.StepRunsTheDecodedRequest := by
  unfold Obligations.StepRunsTheDecodedRequest
  exact ⟨fun _ _ _ hr hb => step_request hr hb, fun _ hb => step_of_bus_nil hb⟩

end Sys2Proof.Machine
end

section
/-! A host access becomes the request of its slot, or is refused (20_memory.md R41, R45). -/

namespace Sys2Proof.Machine

/-! ### The interconnect -/

theorem inWindow_eq_true_iff {addr : Nat} :
    inWindow addr = true ↔ Config.punpkBase ≤ addr ∧ addr ≤ Config.punpkBase + 0x3F := by
  simp [inWindow]

theorem HostAccess.isWord_eq_true_iff {a : HostAccess} : a.isWord = true ↔ a.bytes = 4 ∧ a.addr % 4 = 0 := by
  simp [HostAccess.isWord]

/-- Bits 5:2 of the byte offset are its quotient by 4, modulo the 16 slots (20_memory.md R41). -/
theorem wordIndex_eq_ofNat (addr : Nat) : wordIndex addr = BitVec.ofNat 4 ((addr - Config.punpkBase) / 4) := by
  apply BitVec.eq_of_toNat_eq
  simp only [wordIndex, BitVec.extractLsb'_toNat, BitVec.toNat_ofNat, Nat.shiftRight_eq_div_pow]
  omega

/-- A word access in the window becomes the request of its word index (20_memory.md R41). -/
theorem interconnect_of_isWord {a : HostAccess} (hwin : inWindow a.addr = true) (hword : a.isWord = true) :
    interconnect a = .ok (request a.write (wordIndex a.addr) (if a.write then a.data else 0)) := by
  rw [interconnect, if_pos hwin, if_pos hword]

/-- Any other access in the window is refused (20_memory.md R45). -/
theorem interconnect_of_not_isWord {a : HostAccess} (hwin : inWindow a.addr = true) (hword : a.isWord ≠ true) :
    interconnect a = .error (.notAWordAccess a.addr a.bytes) := by
  rw [interconnect, if_pos hwin, if_neg hword]

/-! ### The step of a host access -/

/-- An access that becomes a request steps as that request, in reset too (20_memory.md R41). -/
theorem step_access_of_ok {a : HostAccess} {q : RequestWord} (h : interconnect a = .ok q) (s : State)
    (rest : List BusEvent) :
    step { s with bus := .access a :: rest } = step { s with bus := .request q :: rest } := by
  have harrive (t : State) : arrive (.access a) t = arrive (.request q) t := by simp only [arrive, h]
  simp only [step, harrive]

/-- An access that becomes none is refused for the interconnect's reason. -/
theorem step_access_of_error {a : HostAccess} {r : Refusal} (h : interconnect a = .error r) {s : State}
    {rest : List BusEvent} (hb : s.bus = .access a :: rest) : step s = .refused r := by
  simp only [step, hb, arrive, h]

/-- Settles O9: the interconnect makes the access this request. -/
theorem hostWordAccessIsTheRequestOfItsSlot : Obligations.HostWordAccessIsTheRequestOfItsSlot := by
  unfold Obligations.HostWordAccessIsTheRequestOfItsSlot
  intro s a rest hbytes haligned hlow hhigh
  have hrequest :=
    interconnect_of_isWord (inWindow_eq_true_iff.2 ⟨hlow, hhigh⟩) (HostAccess.isWord_eq_true_iff.2 ⟨hbytes, haligned⟩)
  rw [wordIndex_eq_ofNat] at hrequest
  exact step_access_of_ok hrequest s rest

/-- Settles O10: the interconnect refuses the access. -/
theorem otherWidthsAndMisalignedAccessesAreRefused : Obligations.OtherWidthsAndMisalignedAccessesAreRefused := by
  unfold Obligations.OtherWidthsAndMisalignedAccessesAreRefused
  intro s a rest hb hlow hhigh hother
  have hword : a.isWord ≠ true := by
    rw [Ne, HostAccess.isWord_eq_true_iff, not_and_or]
    exact hother
  exact step_access_of_error (interconnect_of_not_isWord (inWindow_eq_true_iff.2 ⟨hlow, hhigh⟩) hword) hb

end Sys2Proof.Machine
end

section
/-! Decoding and encoding are inverse to each other, and a word selects the row of its operation alone (30_encoding.md
R61, R62, R66). -/

namespace Sys2Proof

/-! ### The columns of the opcode map at CTRL and at WA 12 to 15 -/

/-- A CTRL word is read as its lowest bit and the 31 bits above it (30_encoding.md R62). -/
theorem decodeCtrl_append (reserved : BitVec 31) (b : Bool) :
    decodeCtrl (reserved ++ BitVec.ofBool b) = if b then .decode reserved else .nop reserved := by
  have hlow := ctrl_low reserved (BitVec.ofBool b)
  rw [decodeCtrl, hlow, ctrl_high]
  cases b <;> rfl

theorem isHighSlot_iff {wa : BitVec 4} : isHighSlot wa = true ↔ 12 ≤ wa.toNat :=
  decide_eq_true_iff

theorem decodeWrite_of_isHighSlot {wa : BitVec 4} (h : isHighSlot wa = true) (d : Word) :
    decodeWrite wa d = .wrUnmapped12_15 wa d := by
  obtain ⟨n, hn⟩ := Nat.exists_eq_add_of_le' (isHighSlot_iff.1 h)
  unfold decodeWrite
  rw [hn]
  rfl

theorem decodeRead_of_isHighSlot {wa : BitVec 4} (h : isHighSlot wa = true) (d : Word) :
    decodeRead wa d = .rdUnmapped12_15 wa d := by
  obtain ⟨n, hn⟩ := Nat.exists_eq_add_of_le' (isHighSlot_iff.1 h)
  unfold decodeRead
  rw [hn]
  rfl

/-! ### What the decoder gives is well-formed -/

theorem decodeCtrl_wellFormed (d : Word) : (decodeCtrl d).wellFormed = true := by
  unfold decodeCtrl
  split <;> rfl

theorem decodeWrite_wellFormed (wa : BitVec 4) (d : Word) : (decodeWrite wa d).wellFormed = true := by
  unfold decodeWrite
  split
  case h_5 => exact decodeCtrl_wellFormed d
  case h_13 =>
    simp only [imp_false] at *
    exact isHighSlot_iff.2 (by omega)
  all_goals rfl

theorem decodeRead_wellFormed (wa : BitVec 4) (d : Word) : (decodeRead wa d).wellFormed = true := by
  unfold decodeRead
  split
  case h_13 =>
    simp only [imp_false] at *
    exact isHighSlot_iff.2 (by omega)
  all_goals rfl

theorem decode_wellFormed (q : RequestWord) : (decode q).wellFormed = true := by
  unfold decode
  split
  · exact decodeWrite_wellFormed _ _
  · exact decodeRead_wellFormed _ _

/-- Settles O11, row by row: CTRL words come apart at bit 0, WA 12 to 15 keep their slot, and every other row fixes its
slot. -/
theorem decodeInvertsEncode : Obligations.DecodeInvertsEncode := by
  unfold Obligations.DecodeInvertsEncode
  intro i hi
  cases i with
  | nop reserved => exact (decode_request true 4 _).trans (decodeCtrl_append reserved false)
  | decode reserved => exact (decode_request true 4 _).trans (decodeCtrl_append reserved true)
  | wrUnmapped12_15 wa d => exact (decode_request true wa d).trans (decodeWrite_of_isHighSlot hi d)
  | rdUnmapped12_15 wa d => exact (decode_request false wa d).trans (decodeRead_of_isHighSlot hi d)
  | _ => exact decode_request _ _ _

/-- Settles O12: the fields that the decoder reads are the fields that the encoder assembles. -/
theorem encodeInvertsDecode : Obligations.EncodeInvertsDecode := by
  unfold Obligations.EncodeInvertsDecode
  exact fun q => ⟨decode_wellFormed q, encode_decode q⟩

/-! ### The rows of the opcode table -/

/-- Every well-formed operation's word is selected by a row of its mnemonic (30_encoding.md R61). -/
theorem rowSelects : ∀ i : Instr, Laws.RowSelects.Statement i
  | .wrIn0 d => Laws.RowSelects.wrIn0 d
  | .wrIn1 d => Laws.RowSelects.wrIn1 d
  | .wrLen d => Laws.RowSelects.wrLen d
  | .wrPort d => Laws.RowSelects.wrPort d
  | .nop reserved => Laws.RowSelects.nop reserved
  | .decode reserved => Laws.RowSelects.decode reserved
  | .wrStatus d => Laws.RowSelects.wrStatus d
  | .wrHumidity d => Laws.RowSelects.wrHumidity d
  | .wrRawTemp d => Laws.RowSelects.wrRawTemp d
  | .wrTemp d => Laws.RowSelects.wrTemp d
  | .wrWind d => Laws.RowSelects.wrWind d
  | .wrDevid d => Laws.RowSelects.wrDevid d
  | .wrUnmapped11 d => Laws.RowSelects.wrUnmapped11 d
  | .wrUnmapped12_15 wa d => Laws.RowSelects.wrUnmapped12_15 wa d
  | .rdIn0 d => Laws.RowSelects.rdIn0 d
  | .rdIn1 d => Laws.RowSelects.rdIn1 d
  | .rdLen d => Laws.RowSelects.rdLen d
  | .rdPort d => Laws.RowSelects.rdPort d
  | .rdCtrl d => Laws.RowSelects.rdCtrl d
  | .rdStatus d => Laws.RowSelects.rdStatus d
  | .rdHumidity d => Laws.RowSelects.rdHumidity d
  | .rdRawTemp d => Laws.RowSelects.rdRawTemp d
  | .rdTemp d => Laws.RowSelects.rdTemp d
  | .rdWind d => Laws.RowSelects.rdWind d
  | .rdDevid d => Laws.RowSelects.rdDevid d
  | .rdUnmapped11 d => Laws.RowSelects.rdUnmapped11 d
  | .rdUnmapped12_15 wa d => Laws.RowSelects.rdUnmapped12_15 wa d

/-- Two rows that select one word agree on the bits that both fix. -/
theorem OpRow.value_and_mask_eq {r r' : OpRow} {q : RequestWord} (h : r.selectedBy q = true)
    (h' : r'.selectedBy q = true) : r.value &&& r'.mask = r'.value &&& r.mask := by
  have hq : q &&& r.mask = r.value := eq_of_beq h
  have hq' : q &&& r'.mask = r'.value := eq_of_beq h'
  rw [← hq, ← hq', BitVec.and_assoc, BitVec.and_assoc, BitVec.and_comm r.mask]

/-- Any two rows of the opcode table differ in a bit that both fix (30_encoding.md R61). -/
theorem opcodeTable_disjoint :
    ∀ r ∈ opcodeTable, ∀ r' ∈ opcodeTable, r.value &&& r'.mask = r'.value &&& r.mask → r' = r := by
  decide

/-- Settles O13: the row of the word's operation selects it, and the rows are disjoint. -/
theorem everyWordSelectsExactlyItsRow : Obligations.EveryWordSelectsExactlyItsRow := by
  unfold Obligations.EveryWordSelectsExactlyItsRow
  refine ⟨rfl, fun q => ?_⟩
  obtain ⟨r, hr, hmnemonic, hsel⟩ := rowSelects (decode q) (decode_wellFormed q)
  rw [encode_decode] at hsel
  exact ⟨r, hr, hsel, hmnemonic, fun r' hr' hsel' =>
    opcodeTable_disjoint r hr r' hr' (OpRow.value_and_mask_eq hsel hsel')⟩

/-! ### The spec's own words -/

/-- Settles O14: the CTRL write decodes by its low bit. -/
theorem ctrlWriteIsSelectedByItsLowBit : Obligations.CtrlWriteIsSelectedByItsLowBit := by
  unfold Obligations.CtrlWriteIsSelectedByItsLowBit
  intro d
  have hctrl : decode (request true 4 d) = decodeCtrl d := decode_request true 4 d
  rw [hctrl, decodeCtrl]
  exact ⟨fun h => if_pos h, fun h => if_neg (Bool.eq_false_iff.1 h)⟩

/-- A request word as a number (30_encoding.md R60). -/
theorem toNat_request (we : Bool) (wa : BitVec 4) (d : Word) :
    (request we wa d).toNat = (if we then 1 else 0) * 2 ^ 36 + wa.toNat * 2 ^ 32 + d.toNat := by
  have hwa : (BitVec.ofBool we ++ wa).toNat = (if we then 1 else 0) * 2 ^ 4 + wa.toNat := by
    rw [BitVec.toNat_append, ← Nat.shiftLeft_add_eq_or_of_lt wa.isLt, Nat.shiftLeft_eq]
    cases we <;> rfl
  rw [request, BitVec.toNat_append, ← Nat.shiftLeft_add_eq_or_of_lt d.isLt, Nat.shiftLeft_eq, hwa]
  omega

/-- Settles O15: the formula of R60 for every request, and each line of R71 evaluated. -/
theorem specEncodingExamples : Obligations.SpecEncodingExamples := by
  unfold Obligations.SpecEncodingExamples
  exact ⟨toNat_request, by decide⟩

/-- Settles O16, by evaluating the decoder on the eleven words. -/
theorem specDecodingVectors : Obligations.SpecDecodingVectors := by
  unfold Obligations.SpecDecodingVectors
  decide

end Sys2Proof
end

section
/-! A table word is laid out as the bytes that the decoder reads (30_encoding.md R60, log 8). -/

namespace Sys2Proof.Machine

/-- The five bytes of a request word are its slices, lowest first. -/
theorem bytesOfNat_toNat (q : RequestWord) :
    bytesOfNat 5 q.toNat =
      [q.extractLsb' 0 8, q.extractLsb' 8 8, q.extractLsb' 16 8, q.extractLsb' 24 8, q.extractLsb' 32 8] := by
  simp [bytesOfNat, BitVec.extractLsb', Nat.shiftRight_eq_div_pow, Nat.div_div_eq_div_mul]

/-- The top byte of a request word holds its bits 36:32, and no bit above. -/
theorem topByte_slices (q : RequestWord) :
    (q.extractLsb' 32 8).extractLsb' 5 3 = 0 ∧ (q.extractLsb' 32 8).extractLsb' 0 5 = q.extractLsb' 32 5 := by
  refine ⟨?_, ?_⟩
  · apply BitVec.eq_of_getLsbD_eq
    intro i hi
    have habove : ¬ 32 + (5 + i) < 37 := by omega
    simp [BitVec.getLsbD_of_ge, Nat.le_of_not_lt habove]
  · apply BitVec.eq_of_getLsbD_eq
    intro i hi
    have hbyte : i < 8 := by omega
    simp [hi, hbyte]

/-- The slices of a request word, put together again. -/
theorem append_slices (q : RequestWord) :
    q.extractLsb' 32 5 ++ q.extractLsb' 24 8 ++ q.extractLsb' 16 8 ++ q.extractLsb' 8 8 ++ q.extractLsb' 0 8 = q := by
  have h24 : q.extractLsb' 32 5 ++ q.extractLsb' 24 8 = q.extractLsb' 24 13 :=
    BitVec.extractLsb'_append_extractLsb'_eq_extractLsb' rfl
  have h16 : q.extractLsb' 24 13 ++ q.extractLsb' 16 8 = q.extractLsb' 16 21 :=
    BitVec.extractLsb'_append_extractLsb'_eq_extractLsb' rfl
  have h8 : q.extractLsb' 16 21 ++ q.extractLsb' 8 8 = q.extractLsb' 8 29 :=
    BitVec.extractLsb'_append_extractLsb'_eq_extractLsb' rfl
  have h0 : q.extractLsb' 8 29 ++ q.extractLsb' 0 8 = q.extractLsb' 0 37 :=
    BitVec.extractLsb'_append_extractLsb'_eq_extractLsb' rfl
  rw [h24, h16, h8, h0, BitVec.extractLsb'_eq_self]

theorem decodeBytes_bytesOfNat (q : RequestWord) : decodeBytes (bytesOfNat 5 q.toNat) = .ok (decode q) := by
  obtain ⟨habove, htop⟩ := topByte_slices q
  rw [bytesOfNat_toNat, decodeBytes, if_pos habove, htop, append_slices]

/-- Placing a request releases reset, so the next step performs it (log 1). -/
theorem step_placeRequest (s : State) (q : RequestWord) :
    step (placeRequest s q) = exec (decode q) { s with inReset := false } :=
  step_request (placeRequest_inReset s q) (placeRequest_bus s q)

/-- Settles O8: the word's bytes and its wires hold the same request. -/
theorem tableWordRunsAsItDecodes : Obligations.TableWordRunsAsItDecodes := by
  unfold Obligations.TableWordRunsAsItDecodes
  intro s w hw
  have hmod : w % 2 ^ 40 = w := by omega
  have htoNat : (BitVec.ofNat 37 w).toNat = w := (BitVec.toNat_ofNat w 37).trans (Nat.mod_eq_of_lt hw)
  have hbytes := decodeBytes_bytesOfNat (BitVec.ofNat 37 w)
  rw [htoNat] at hbytes
  refine ⟨decode (BitVec.ofNat 37 w), ?_, ?_⟩
  · have hlen : max 5 ((40 + 7) / 8) = 5 := rfl
    simp only [decodeTableWord, hmod, hlen, hbytes]
  · rw [State.withFetchWord, requestOfTableWord, hmod, step_placeRequest]

end Sys2Proof.Machine
end

section
/-! What a write request does, column by column of the opcode map (30_encoding.md R65, R67). -/

namespace Sys2Proof.Machine

theorem decode_of_write {q : RequestWord} (h : reqWE q = true) : decode q = decodeWrite (reqWA q) (reqWDATA q) :=
  if_pos h

/-- A CTRL write does what its low bit says (30_encoding.md R62). -/
theorem exec_decodeCtrl (d : Word) (s : State) :
    exec (decodeCtrl d) s = if d.getLsbD 0 then acceptWrite s.regs.afterDecode s else ignoreWrite s := by
  unfold decodeCtrl
  split <;> rfl

/-- Every write at WA 5 to 15 is ignored (30_encoding.md R67). -/
theorem exec_decodeWrite_of_five_le {wa : BitVec 4} (h : 5 ≤ wa.toNat) (d : Word) (s : State) :
    exec (decodeWrite wa d) s = ignoreWrite s := by
  obtain ⟨slot, hslot⟩ := Nat.exists_eq_add_of_le' h
  unfold decodeWrite
  rw [hslot]
  match slot with
  | 0 | 1 | 2 | 3 | 4 | 5 | 6 => rfl
  | _ + 7 => rfl

/-- A slot that takes WDATA[7:0] or WDATA[0] alone does the same for two words that agree there (30_encoding.md R65). -/
theorem exec_decodeWrite_congr {wa : BitVec 4} {d d' : Word} (s : State)
    (h : (wa = 2 ∨ wa = 3) ∧ d.toNat % 256 = d'.toNat % 256 ∨ wa = 4 ∧ d.getLsbD 0 = d'.getLsbD 0) :
    exec (decodeWrite wa d) s = exec (decodeWrite wa d') s := by
  obtain ⟨hwa, hbyte⟩ | ⟨rfl, hbit⟩ := h
  · have hlow : lowByte d = lowByte d' := BitVec.eq_of_toNat_eq (by rw [toNat_lowByte, toNat_lowByte, hbyte])
    obtain rfl | rfl := hwa
    · exact congrArg (fun b => acceptWrite { s.regs with len := zext32 b } s) hlow
    · exact congrArg (fun b => acceptWrite { s.regs with port := zext32 b } s) hlow
  · have hctrl := exec_decodeCtrl d s
    rw [hbit, ← exec_decodeCtrl] at hctrl
    exact hctrl

/-- Settles O17: both writes stand in one slot's row and agree on the bits that it takes. -/
theorem reservedWriteBitsHaveNoEffect : Obligations.ReservedWriteBitsHaveNoEffect := by
  unfold Obligations.ReservedWriteBitsHaveNoEffect
  intro q q' s hq hq' hwa h
  refine ⟨?_, exec_completes _ _⟩
  rw [decode_of_write hq, decode_of_write hq', hwa]
  exact exec_decodeWrite_congr s h

/-- Settles O20: a CTRL write with a clear low bit and a write at WA 5 to 15 are ignored. -/
theorem noOpRequestsChangeNoState : Obligations.NoOpRequestsChangeNoState := by
  unfold Obligations.NoOpRequestsChangeNoState
  intro q s hq h
  rw [decode_of_write hq]
  obtain ⟨hwa, hbit⟩ | hwa := h
  · rw [hwa]
    exact (exec_decodeCtrl _ s).trans (if_neg (Bool.eq_false_iff.1 hbit))
  · exact exec_decodeWrite_of_five_le hwa _ s

end Sys2Proof.Machine
end

section
/-! No request word is illegal, so a run over request words stops nowhere (30_encoding.md R66, 60_exceptions.md
R131). -/

namespace Sys2Proof.Machine

/-- Out of reset a request goes on, and takes itself alone off the list. -/
theorem step_request_completes {s : State} {q : RequestWord} {rest : List BusEvent} (hr : s.inReset = false)
    (hb : s.bus = .request q :: rest) : ∃ t, step s = .next t ∧ t.inReset = false ∧ t.bus = rest := by
  obtain ⟨t, ht⟩ := exec_completes (decode q) { s with bus := rest }
  obtain ⟨hreset, hbus⟩ := exec_keeps_interface ht
  exact ⟨t, (step_request hr hb).trans ht, hreset.trans hr, hbus⟩

theorem step_request_of_inReset {s : State} {q : RequestWord} {rest : List BusEvent} (hr : s.inReset = true)
    (hb : s.bus = .request q :: rest) : step s = .fault .accessDuringReset := by
  simp [step, hb, arrive, arriveRequest, hr]

/-- In reset or out of it, a request is not refused (30_encoding.md R66). -/
theorem step_request_ne_refused {s : State} {q : RequestWord} {rest : List BusEvent} (hb : s.bus = .request q :: rest)
    (r : Refusal) : step s ≠ .refused r := by
  intro h
  cases hr : s.inReset with
  | true => cases (step_request_of_inReset hr hb).symm.trans h
  | false =>
    obtain ⟨t, ht, _⟩ := step_request_completes hr hb
    cases ht.symm.trans h

/-- A word access in the window is not refused: it becomes a request. -/
theorem step_wordAccess_ne_refused {s : State} {a : HostAccess} {rest : List BusEvent} (hb : s.bus = .access a :: rest)
    (hwin : inWindow a.addr = true) (hword : a.isWord = true) (r : Refusal) : step s ≠ .refused r := by
  have hstep := step_access_of_ok (interconnect_of_isWord hwin hword) s rest
  rw [← hb] at hstep
  rw [hstep]
  exact step_request_ne_refused rfl r

/-- Settles O18: every operation completes, and neither a request nor a word access in the window is refused. -/
theorem noRequestWordIsIllegal : Obligations.NoRequestWordIsIllegal := by
  unfold Obligations.NoRequestWordIsIllegal
  refine ⟨fun q s => exec_completes (decode q) s, fun s q rest r hb => step_request_ne_refused hb r, ?_⟩
  intro s a rest r hb hlow hhigh hrefused
  rw [← not_and_or, ← HostAccess.isWord_eq_true_iff]
  exact fun hword => step_wordAccess_ne_refused hb (inWindow_eq_true_iff.2 ⟨hlow, hhigh⟩) hword r hrefused

/-- With only requests pending out of reset, a step goes on to such a state. -/
theorem step_of_onlyRequests {s : State} (hr : s.inReset = false) (hs : s.OnlyRequests) :
    ∃ t, step s = .next t ∧ t.inReset = false ∧ t.OnlyRequests := by
  cases hb : s.bus with
  | nil => exact ⟨s, step_of_bus_nil hb, hr, hs⟩
  | cons e rest =>
    obtain ⟨q, rfl⟩ := hs e (by simp [hb])
    obtain ⟨t, ht, hreset, hbus⟩ := step_request_completes hr hb
    exact ⟨t, ht, hreset, fun e he => hs e (by rw [hb, ← hbus]; exact .tail _ he)⟩

/-- Settles O19, by induction on the steps. -/
theorem requestRunsNeverStop : Obligations.RequestRunsNeverStop := by
  unfold Obligations.RequestRunsNeverStop
  intro k s hr hs
  induction k generalizing s with
  | zero => exact ⟨s, rfl⟩
  | succ k ih =>
    obtain ⟨t, ht, hreset, honly⟩ := step_of_onlyRequests hr hs
    rw [RunsFor, run_succ_next k ht]
    exact ih t hreset honly

end Sys2Proof.Machine
end

section
/-! The rows that fix only WA[3:2], and those that fix WDATA[0] too, decide the operation as well (30_encoding.md R61,
R62). -/

namespace Sys2Proof

theorem request_and_highSlotMask (we : Bool) (wa : BitVec 4) (d : Word) :
    request we wa d &&& 0x1C00000000 = request we (wa &&& 12) 0 := by
  have hfixed : ∀ (we : Bool) (wa : BitVec 4),
      (BitVec.ofBool we ++ wa : BitVec 5) &&& 0x1C#5 = BitVec.ofBool we ++ (wa &&& 12) := by decide
  have h := Laws.request_and we wa d 0x1C#5 0#32
  rw [hfixed, BitVec.and_zero] at h
  exact h

/-- A row that fixes WE and WA[3:2] selects exactly the words of its operation (40_register_access.md R94, R107). -/
theorem highSlot_selects_iff_decode_eq {q : RequestWord} (we : Bool) {i : Instr}
    (henc : encode i = request we (reqWA q) (reqWDATA q)) (hwf : i.wellFormed = isHighSlot (reqWA q)) :
    q &&& 0x1C00000000 = request we 12 0 ↔ decode q = i := by
  constructor
  · intro h
    have hhigh : ∀ wa : BitVec 4, wa &&& 12 = 12 → isHighSlot wa = true := by decide
    rw [← request_fields q, request_and_highSlotMask] at h
    have hwe : reqWE q = we := by simpa only [reqWE_request] using congrArg reqWE h
    have hwa : reqWA q &&& 12 = 12 := by simpa only [reqWA_request] using congrArg reqWA h
    rw [← hwe, request_fields] at henc
    rw [← henc]
    exact decodeInvertsEncode i (hwf.trans (hhigh _ hwa))
  · intro h
    have hword : q = request we (reqWA q) (reqWDATA q) := (encode_decode q).symm.trans (h ▸ henc)
    have hhigh : isHighSlot (reqWA q) = true := hwf.symm.trans (h ▸ decode_wellFormed q)
    rw [hword]
    exact Laws.highSlot_selects we _ _ hhigh

/-- A row that fixes WE, WA = 4 and WDATA[0] selects exactly the words of its operation (30_encoding.md R62). -/
theorem ctrl_selects_iff_decode_eq (q : RequestWord) (b : Bool) :
    q &&& 0x1F00000001 = request true 4 (0#31 ++ BitVec.ofBool b) ↔
      decode q = if b then .decode (q.extractLsb' 1 31) else .nop (q.extractLsb' 1 31) := by
  have hword (d : Word) : decode q = decodeCtrl d ↔ q = request true 4 d := by
    rw [← decode_injective.eq_iff, decode_request]
    rfl
  have hhigh : (reqWDATA q).extractLsb' 1 31 = q.extractLsb' 1 31 := by simp [reqWDATA]
  rw [← decodeCtrl_append, hword]
  constructor
  · intro h
    have hslot : q &&& 0x1F00000000 = request true 4 0 := by
      have hmask : (0x1F00000000 : RequestWord) = 0x1F00000001 &&& 0x1F00000000 := by decide
      rw [hmask, ← BitVec.and_assoc, h, Laws.slot_selects]
    have hq := (hword _).1 ((slot_selects_iff_decode_eq (decode_request true 4 (reqWDATA q))).1 hslot)
    rw [← ctrl_split (reqWDATA q), hhigh] at hq
    rw [hq, Laws.ctrl_selects] at h
    have hlow := congrArg (fun x => (reqWDATA x).getLsbD 0) h
    simp only [reqWDATA_request, ctrl_low, BitVec.getLsbD_ofBool, decide_true, Bool.true_and] at hlow
    rw [← hlow]
    exact hq
  · intro h
    rw [h]
    exact Laws.ctrl_selects _ _

end Sys2Proof
end

section
/-! What a write leaves: an input register takes WDATA or its low byte, and every other slot stays as it was
(40_register_access.md R80, R82 to R94). -/

namespace Sys2Proof.Machine

/-! ### The address map after a write to an input register -/

theorem slotValue_writeIn0_of_ne {wa : BitVec 4} (h : wa ≠ 0) (r : Regs) (d : Word) :
    (r.writeIn0 d).slotValue wa = r.slotValue wa := by
  unfold Regs.slotValue
  split
  case h_1 h0 => exact absurd (BitVec.eq_of_toNat_eq h0) h
  all_goals rfl

theorem slotValue_writeIn1_of_ne {wa : BitVec 4} (h : wa ≠ 1) (r : Regs) (d : Word) :
    (r.writeIn1 d).slotValue wa = r.slotValue wa := by
  unfold Regs.slotValue
  split
  case h_2 h1 => exact absurd (BitVec.eq_of_toNat_eq h1) h
  all_goals rfl

theorem slotValue_writeLen_of_ne {wa : BitVec 4} (h : wa ≠ 2) (r : Regs) (d : Word) :
    (r.writeLen d).slotValue wa = r.slotValue wa := by
  unfold Regs.slotValue
  split
  case h_3 h2 => exact absurd (BitVec.eq_of_toNat_eq h2) h
  all_goals rfl

theorem slotValue_writePort_of_ne {wa : BitVec 4} (h : wa ≠ 3) (r : Regs) (d : Word) :
    (r.writePort d).slotValue wa = r.slotValue wa := by
  unfold Regs.slotValue
  split
  case h_4 h3 => exact absurd (BitVec.eq_of_toNat_eq h3) h
  all_goals rfl

/-! ### The frame of a write -/

theorem isDecode_decodeCtrl (d : Word) : isDecode (decodeCtrl d) = d.getLsbD 0 := by
  unfold decodeCtrl
  cases d.getLsbD 0 <;> rfl

/-- A write that is no DECODE ends with the address map as it was, its own slot apart (40_register_access.md R80). -/
theorem exec_decodeWrite_frame {wa : BitVec 4} {d : Word} (h : isDecode (decodeWrite wa d) = false) (s : State) :
    ∃ r : Regs, exec (decodeWrite wa d) s = acceptWrite r s ∧
      ∀ wa', wa' ≠ wa → r.slotValue wa' = s.regs.slotValue wa' := by
  have hslots : ∀ wa : BitVec 4, wa = 0 ∨ wa = 1 ∨ wa = 2 ∨ wa = 3 ∨ wa = 4 ∨ 5 ≤ wa.toNat := by decide
  obtain rfl | rfl | rfl | rfl | rfl | hwa := hslots wa
  · exact ⟨s.regs.writeIn0 d, rfl, fun _ hne => slotValue_writeIn0_of_ne hne _ _⟩
  · exact ⟨s.regs.writeIn1 d, rfl, fun _ hne => slotValue_writeIn1_of_ne hne _ _⟩
  · exact ⟨s.regs.writeLen d, rfl, fun _ hne => slotValue_writeLen_of_ne hne _ _⟩
  · exact ⟨s.regs.writePort d, rfl, fun _ hne => slotValue_writePort_of_ne hne _ _⟩
  · have hbit : d.getLsbD 0 = false := (isDecode_decodeCtrl d).symm.trans h
    exact ⟨s.regs, (exec_decodeCtrl d s).trans (if_neg (Bool.eq_false_iff.1 hbit)), fun _ _ => rfl⟩
  · exact ⟨s.regs, exec_decodeWrite_of_five_le hwa d s, fun _ _ => rfl⟩

/-- Settles O27: the frame of a write, where STATUS stays because the inputs alone are stepped. -/
theorem writesTouchOnlyTheirOwnSlot : Obligations.WritesTouchOnlyTheirOwnSlot := by
  unfold Obligations.WritesTouchOnlyTheirOwnSlot
  intro q s hq hno
  have hdecode := decode_of_write hq
  obtain ⟨r, hexec, hframe⟩ := exec_decodeWrite_frame (hdecode ▸ hno) s
  rw [← hdecode] at hexec
  exact ⟨_, hexec, rfl, rfl, rfl, (exec_inputStep hno hexec).sameReading.status, hframe⟩

/-! ### The input registers -/

theorem toNat_zext32_lowByte (w : Word) : (zext32 (lowByte w)).toNat = w.toNat % 256 := by
  rw [toNat_zext32 (by decide), toNat_lowByte]

/-- The byte that WR.LEN and WR.PORT store is WDATA with its reserved bits masked off (30_encoding.md R63). -/
theorem zext32_lowByte (w : Word) : zext32 (lowByte w) = w &&& 0xFF := by
  apply BitVec.eq_of_toNat_eq
  rw [toNat_zext32_lowByte, BitVec.toNat_and]
  exact (Nat.and_two_pow_sub_one_eq_mod _ 8).symm

theorem payloadByte_of_lt (r : Regs) {i : Nat} (h : i < 4) : r.payloadByte i = byteOf r.in0 i :=
  if_pos h

theorem payloadByte_four_add (r : Regs) (i : Nat) : r.payloadByte (4 + i) = byteOf r.in1 i := by
  rw [Regs.payloadByte, if_neg (by omega), Nat.add_sub_cancel_left]

theorem toNat_payloadByte_of_lt (r : Regs) {i : Nat} (h : i < 4) :
    (r.payloadByte i).toNat = r.in0.toNat / 2 ^ (8 * i) % 256 := by
  rw [payloadByte_of_lt r h, toNat_byteOf]

theorem toNat_payloadByte_four_add (r : Regs) (i : Nat) :
    (r.payloadByte (4 + i)).toNat = r.in1.toNat / 2 ^ (8 * i) % 256 := by
  rw [payloadByte_four_add, toNat_byteOf]

/-- The devid is IN1 whole (41_decode.md R118). -/
theorem decodeFields_devid (in0 in1 : Word) : (decodeFields in0 in1).devid = in1 :=
  devidField_byteOf in1

/-- The devid is unsigned: a byte 7 of 0x80 or more is its top byte (40_register_access.md R83). -/
theorem devid_ge_of_payloadByte_seven {r : Regs} (h : 0x80 ≤ (r.payloadByte 7).toNat) :
    0x80000000 ≤ (decodeFields r.in0 r.in1).devid.toNat := by
  rw [toNat_payloadByte_four_add r 3] at h
  rw [decodeFields_devid]
  omega

/-- Settles O21: the row fixes its slot, and the payload bytes are those of WDATA. -/
theorem wrIn0LoadsPayloadBytesZeroToThree : Obligations.WrIn0LoadsPayloadBytesZeroToThree := by
  unfold Obligations.WrIn0LoadsPayloadBytesZeroToThree
  refine ⟨fun q => ?_, fun wdata s => ?_, fun s => ?_⟩
  · exact slot_selects_iff_decode_eq (decode_request true 0 (reqWDATA q))
  · exact ⟨_, rfl, rfl, fun i hi => toNat_payloadByte_of_lt (s.regs.writeIn0 wdata) hi,
      (Regs.InputStep.in0 wdata).sameReading⟩
  · have hbytes : byteOf 0x0310E805 0 = 0x05 ∧ byteOf 0x0310E805 1 = 0xE8 ∧ byteOf 0x0310E805 2 = 0x10 ∧
        byteOf 0x0310E805 3 = 0x03 := by decide
    exact ⟨_, rfl, rfl, hbytes⟩

/-- Settles O22: the row fixes its slot, the payload bytes are those of WDATA, and the devid is WDATA whole. -/
theorem wrIn1LoadsPayloadBytesFourToSeven : Obligations.WrIn1LoadsPayloadBytesFourToSeven := by
  unfold Obligations.WrIn1LoadsPayloadBytesFourToSeven
  refine ⟨fun q => ?_, fun wdata s => ?_, fun s => ?_⟩
  · exact slot_selects_iff_decode_eq (decode_request true 1 (reqWDATA q))
  · exact ⟨_, rfl, rfl, fun i _ => toNat_payloadByte_four_add (s.regs.writeIn1 wdata) i,
      (Regs.InputStep.in1 wdata).sameReading, devid_ge_of_payloadByte_seven⟩
  · have hbytes : byteOf 0x04030201 0 = 0x01 ∧ byteOf 0x04030201 1 = 0x02 ∧ byteOf 0x04030201 2 = 0x03 ∧
        byteOf 0x04030201 3 = 0x04 := by decide
    exact ⟨_, rfl, hbytes⟩

/-- Settles O23: the row fixes its slot, and the stored byte is WDATA mod 256. -/
theorem wrLenStoresTheLowByte : Obligations.WrLenStoresTheLowByte := by
  unfold Obligations.WrLenStoresTheLowByte
  refine ⟨fun q => ?_, fun wdata s => ?_, fun s => ⟨rfl, rfl⟩⟩
  · exact slot_selects_iff_decode_eq (decode_request true 2 (reqWDATA q))
  · rw [← zext32_lowByte]
    exact ⟨_, rfl, rfl, toNat_zext32_lowByte wdata⟩

/-- A decode leaves the same reading whatever PORT holds (41_decode.md R121). -/
theorem afterDecode_setPort_sameReading (r : Regs) (p : Word) :
    r.afterDecode.SameReading ({ r with port := p } : Regs).afterDecode := by
  rw [afterDecode_setPort r p]
  exact ⟨rfl, rfl, rfl, rfl, rfl, rfl⟩

/-- Settles O24: the row fixes its slot, the stored byte is WDATA mod 256, and no decode reads PORT. -/
theorem wrPortStoresTheLowByte : Obligations.WrPortStoresTheLowByte := by
  unfold Obligations.WrPortStoresTheLowByte
  refine ⟨fun q => ?_, fun wdata s => ?_, fun s => rfl⟩
  · exact slot_selects_iff_decode_eq (decode_request true 3 (reqWDATA q))
  · rw [← zext32_lowByte]
    exact ⟨_, rfl, rfl, toNat_zext32_lowByte wdata,
      fun _ => ⟨_, _, rfl, rfl, afterDecode_setPort_sameReading s.regs _⟩⟩

/-! ### The ignored writes -/

/-- Settles O25: the row fixes CTRL and a clear WDATA[0], and the operation is an ignored write. -/
theorem nopChangesNothing : Obligations.NopChangesNothing := by
  unfold Obligations.NopChangesNothing
  exact ⟨fun q => ctrl_selects_iff_decode_eq q false, fun _ _ => rfl, by decide⟩

/-- Settles O26: each row fixes its slot or its slot's two high bits, each operation is an ignored write, and only a
DECODE changes the reading. -/
theorem writesToReadOnlyAndUnmappedSlotsAreIgnored : Obligations.WritesToReadOnlyAndUnmappedSlotsAreIgnored := by
  unfold Obligations.WritesToReadOnlyAndUnmappedSlotsAreIgnored
  refine ⟨fun q => ?_, fun wdata wa s => ⟨rfl, rfl, rfl, rfl, rfl, rfl, rfl, rfl⟩,
    fun i s t h hno => (exec_inputStep hno h).sameReading.devid⟩
  have hrow (wa : BitVec 4) := slot_selects_iff_decode_eq (q := q) (decode_request true wa (reqWDATA q))
  exact ⟨hrow 5, hrow 6, hrow 7, hrow 8, hrow 9, hrow 10, hrow 11, highSlot_selects_iff_decode_eq true rfl rfl⟩

end Sys2Proof.Machine
end

section
/-! What the reads answer, and how the invariant bounds it (40_register_access.md R95 to R107). -/

namespace Sys2Proof.Machine

/-- The bits of a word above a bound on its value are 0. -/
theorem extractLsb'_eq_zero_of_lt {n : Nat} {w : BitVec n} {i : Nat} (h : w.toNat < 2 ^ i) (k : Nat) :
    w.extractLsb' i k = 0 := by
  apply BitVec.eq_of_toNat_eq
  simp [BitVec.extractLsb'_toNat, Nat.shiftRight_eq_zero w.toNat i h]

/-- A reading that is held has TEMP = RAW_TEMP - 500, as signed numbers (41_decode.md R116). -/
theorem Regs.OutputsHold.sint_temp {r : Regs} {in0 in1 : Word} (h : r.OutputsHold (decodeFields in0 in1)) :
    sint r.temp = (r.rawTemp.toNat : Int) - 500 := by
  rw [h.temp, decodeFields_temp, sint_tempField, h.rawTemp, toNat_zext32 (by decide)]

/-- Every operation but RD.PORT ends the same, answer and all, whatever PORT holds; PORT itself apart (10_state.md
R26). -/
theorem exec_withPort {i : Instr} {s t : State} (p : Word) (hi : ∀ w, i ≠ .rdPort w) (h : exec i s = .next t) :
    ∃ p', exec i (s.withPort p) = .next (t.withPort p') := by
  cases i with
  | rdPort w => exact absurd rfl (hi w)
  | decode reserved =>
    cases h
    exact ⟨p, congrArg (fun r => acceptWrite r s) (afterDecode_setPort s.regs p)⟩
  | wrPort w => cases h; exact ⟨zext32 (lowByte w), rfl⟩
  | _ => cases h; exact ⟨p, rfl⟩

/-- Settles O30: the rows fix their slots, the invariant bounds LEN and PORT, a decode keeps the inputs, and RD.PORT
alone lets PORT out. -/
theorem inputRegistersReadBack : Obligations.InputRegistersReadBack := by
  unfold Obligations.InputRegistersReadBack
  refine ⟨fun q => ?_, fun w s => ⟨rfl, rfl, rfl, rfl, fun hinv => ?_⟩, fun w d s => ?_,
    fun i s t p hi h => exec_withPort p hi h⟩
  · have hrow (wa : BitVec 4) := slot_selects_iff_decode_eq (q := q) (decode_request false wa (reqWDATA q))
    exact ⟨hrow 0, hrow 1, hrow 2, hrow 3⟩
  · exact ⟨extractLsb'_eq_zero_of_lt hinv.reserved.len 24, extractLsb'_eq_zero_of_lt hinv.reserved.port 24⟩
  · obtain ⟨hin0, hin1, _, _⟩ := afterDecode_sameInputs s.regs
    exact ⟨⟨_, rfl, rfl⟩, ⟨_, rfl, rfl⟩, ⟨_, rfl, rfl⟩, ⟨_, rfl, rfl⟩, ⟨_, rfl, rfl⟩, rfl,
      fun _ => ⟨_, rfl, hin0, hin1⟩⟩

/-- A decode of the spec's example latches the fields of its IN0 and IN1 (40_register_access.md R100). -/
theorem Regs.HasSpecExample.outputsHold {r : Regs} (h : r.HasSpecExample) :
    r.afterDecode.OutputsHold (decodeFields 0x0310E805 0x04030201) := by
  obtain ⟨hin0, hin1, hlen⟩ := h
  have hlong : 8 ≤ r.declaredLength := by
    rw [declaredLength_eq, hlen]
    decide
  rw [← hin0, ← hin1]
  exact (afterDecode_reading_of_long hlong).2

/-- Settles O33: the rows fix their slots, the invariant bounds the outputs and gives each state a reading or zeros, and
the example is evaluated. -/
theorem outputRegistersAreAnswered : Obligations.OutputRegistersAreAnswered := by
  unfold Obligations.OutputRegistersAreAnswered
  refine ⟨fun q => ?_, fun w s => ⟨rfl, rfl, rfl, rfl, rfl⟩, fun s hinv => ?_, fun reserved s h => ?_⟩
  · have hrow (wa : BitVec 4) := slot_selects_iff_decode_eq (q := q) (decode_request false wa (reqWDATA q))
    exact ⟨hrow 6, hrow 7, hrow 8, hrow 9, hrow 10⟩
  · refine ⟨extractLsb'_eq_zero_of_lt hinv.reserved.humidity 24, extractLsb'_eq_zero_of_lt hinv.reserved.rawTemp 20,
      extractLsb'_eq_zero_of_lt hinv.reserved.wind 20, fun hvalid => ?_, fun hvalid => ?_⟩
    · obtain ⟨in0, in1, hfields⟩ := hinv.reading hvalid
      exact hfields.sint_temp
    · obtain ⟨hhumidity, hrawTemp, htemp, hwind, hdevid⟩ := hinv.cleared hvalid
      exact ⟨hhumidity, hrawTemp, htemp, hwind, hdevid⟩
  · obtain ⟨hhumidity, hrawTemp, htemp, hwind, hdevid⟩ := h.outputsHold
    refine ⟨_, rfl, hhumidity, hrawTemp, htemp, ?_, hwind, hdevid⟩
    exact (congrArg sint htemp).trans (by decide)

/-- Settles O31: each row fixes its slot or its slot's two high bits, and the operations answer 0. -/
theorem ctrlAndUnmappedSlotsReadZero : Obligations.CtrlAndUnmappedSlotsReadZero := by
  unfold Obligations.CtrlAndUnmappedSlotsReadZero
  refine ⟨fun q => ?_, fun w wa s => ⟨rfl, rfl, rfl⟩⟩
  have hrow (wa : BitVec 4) := slot_selects_iff_decode_eq (q := q) (decode_request false wa (reqWDATA q))
  exact ⟨hrow 4, hrow 11, highSlot_selects_iff_decode_eq false rfl rfl⟩

end Sys2Proof.Machine
end

section
/-! What DECODE leaves, as an equation for each outcome of the length check (41_decode.md R110, R120, R121, R123;
70_reset_and_hazards.md R154). -/

namespace Sys2Proof.Machine

/-! ### Both outcomes as equations -/

theorem afterDecode_eq_raise {r : Regs} (h : r.declaredLength < 8) : r.afterDecode = r.raisePayloadTooShort := by
  obtain ⟨_, hd⟩ | ⟨hlong, _⟩ := afterDecode_cases r
  · exact hd
  · omega

theorem afterDecode_eq_latch {r : Regs} (h : 8 ≤ r.declaredLength) :
    r.afterDecode = r.latch (decodeFields r.in0 r.in1) := by
  obtain ⟨hshort, _⟩ | ⟨_, hd⟩ := afterDecode_cases r
  · omega
  · exact hd

theorem afterDecode_eq_ite (r : Regs) :
    r.afterDecode = if r.declaredLength < 8 then r.raisePayloadTooShort else r.latch (decodeFields r.in0 r.in1) := by
  split
  · exact afterDecode_eq_raise ‹_›
  · exact afterDecode_eq_latch (by omega)

/-- A decode that fails the check sets VALID = 0 and SHORT = 1 (41_decode.md R120). -/
theorem afterDecode_flags_of_short {r : Regs} (h : r.declaredLength < 8) :
    r.afterDecode.valid = false ∧ r.afterDecode.short = true := by
  simp [afterDecode_eq_raise h]

/-- A decode that passes the check sets VALID = 1 and SHORT = 0 (41_decode.md R110). -/
theorem afterDecode_flags_of_long {r : Regs} (h : 8 ≤ r.declaredLength) :
    r.afterDecode.valid = true ∧ r.afterDecode.short = false := by
  simp [afterDecode_eq_latch h]

/-- What the example of R110 latches. -/
theorem Regs.HasSpecExample.afterDecode_eq {r : Regs} (h : r.HasSpecExample) :
    r.afterDecode = { r with
      status := 0x1, humidity := 0x05, rawTemp := 0x0E8, temp := 0xFFFFFEF4, wind := 0x031, devid := 0x04030201 } := by
  obtain ⟨hin0, hin1, hlen⟩ := h
  have hlong : 8 ≤ r.declaredLength := by
    rw [declaredLength_eq, hlen]
    decide
  have hfields : decodeFields r.in0 r.in1 =
      { humidity := 0x05, rawTemp := 0x0E8, temp := 0xFFFFFEF4, wind := 0x031, devid := 0x04030201 } := by
    rw [hin0, hin1]
    decide
  rw [afterDecode_eq_latch hlong, hfields]
  rfl

/-- Settles O35: the row fixes CTRL and a set WDATA[0], the length check selects the outcome, and the example passes
it. -/
theorem decodeReportsTooShortOrLatchesTheReading : Obligations.DecodeReportsTooShortOrLatchesTheReading := by
  unfold Obligations.DecodeReportsTooShortOrLatchesTheReading
  refine ⟨fun q => ctrl_selects_iff_decode_eq q true, fun reserved s => ?_, fun reserved s h => ?_⟩
  · exact congrArg (acceptWrite · s) (afterDecode_eq_ite s.regs)
  · exact congrArg (acceptWrite · s) h.afterDecode_eq

/-- Settles O36: each outcome's outputs and flags, and 7, 8 and 0 against the bound. -/
theorem shortPayloadProducesNoReading : Obligations.ShortPayloadProducesNoReading := by
  unfold Obligations.ShortPayloadProducesNoReading
  refine ⟨fun reserved s => ⟨_, rfl, ?_, ?_⟩, fun reserved in0 in1 s => ⟨⟨_, rfl, ?_⟩, ⟨_, rfl, ?_⟩, ⟨_, rfl, ?_⟩⟩⟩
  · rw [← declaredLength_eq]
    exact fun hshort => ⟨(afterDecode_of_short hshort).2, afterDecode_flags_of_short hshort⟩
  · rw [← declaredLength_eq]
    exact fun hlong => ⟨(afterDecode_reading_of_long hlong).2, afterDecode_flags_of_long hlong⟩
  · exact (afterDecode_flags_of_short (by simp [declaredLength_eq])).2
  · exact (afterDecode_flags_of_long (by simp [declaredLength_eq])).1
  · exact (afterDecode_flags_of_short (by simp [declaredLength_eq])).2

/-! ### What a decode depends on -/

/-- The check reads LEN and the datapath IN0 and IN1, so these decide the whole reading (41_decode.md R123). -/
theorem afterDecode_sameReading {r r' : Regs} (hin0 : r'.in0 = r.in0) (hin1 : r'.in1 = r.in1) (hlen : r'.len = r.len) :
    r.afterDecode.SameReading r'.afterDecode := by
  have hcheck : r'.declaredLength = r.declaredLength := by simp only [declaredLength_eq, hlen]
  by_cases h : r.declaredLength < 8
  · rw [afterDecode_eq_raise h, afterDecode_eq_raise (hcheck.trans_lt h)]
    exact ⟨rfl, rfl, rfl, rfl, rfl, rfl⟩
  · rw [afterDecode_eq_latch (Nat.le_of_not_lt h), afterDecode_eq_latch (by omega), hin0, hin1]
    exact ⟨rfl, rfl, rfl, rfl, rfl, rfl⟩

/-- Settles O45: IN0, IN1 and LEN decide the reading. -/
theorem decodeDependsOnItsInputsAlone : Obligations.DecodeDependsOnItsInputsAlone := by
  unfold Obligations.DecodeDependsOnItsInputsAlone
  exact fun _ _ _ _ hin0 hin1 hlen => ⟨_, _, rfl, rfl, afterDecode_sameReading hin0 hin1 hlen⟩

/-- Settles O43: the common state is what DECODE leaves from the state itself, and a decode commutes with setting
PORT. -/
theorem decodeIgnoresThePort : Obligations.DecodeIgnoresThePort := by
  unfold Obligations.DecodeIgnoresThePort
  intro reserved s p p'
  have hport (p : Word) : exec (.decode reserved) (s.withPort p) =
      .next (State.withPort { s with regs := s.regs.afterDecode, rdata := none } p) :=
    congrArg (acceptWrite · s) (afterDecode_setPort s.regs p)
  exact ⟨_, hport p, hport p'⟩

/-- Settles O48: LEN is 0 at reset, and no write to IN0 or IN1 changes the LEN that the check reads. -/
theorem skippedInputWritesUseWhatIsThere : Obligations.SkippedInputWritesUseWhatIsThere := by
  unfold Obligations.SkippedInputWritesUseWhatIsThere
  refine ⟨fun reserved => ⟨_, rfl, ?_⟩, fun reserved d0 d1 s => ?_⟩
  · exact (afterDecode_flags_of_short (by decide)).symm
  · have hlen : ((s.regs.writeIn0 d0).writeIn1 d1).declaredLength = s.regs.len.toNat % 256 := declaredLength_eq s.regs
    rw [← hlen]
    exact ⟨_, _, _, rfl, rfl, rfl, (afterDecode_sameInputs _).len, fun hshort => (afterDecode_flags_of_short hshort).2,
      fun hlong => ⟨(afterDecode_flags_of_long hlong).1, (afterDecode_reading_of_long hlong).2⟩⟩

end Sys2Proof.Machine
end

section
/-! The reading as numbers: the source's formulas, their ranges, and the thirteen bits of TEMP (41_decode.md R112 to
R117, R122). -/

namespace Sys2Proof.Machine

/-- Settles O37: each field's formula. -/
theorem fieldsAreTheSourceFormulas : Obligations.FieldsAreTheSourceFormulas := by
  unfold Obligations.FieldsAreTheSourceFormulas
  exact fun r => ⟨decodeFields_humidity_toNat r, decodeFields_rawTemp_toNat r, decodeFields_wind_toNat r,
    decodeFields_devid_toNat r⟩

/-- The source's rawTemp of eight payload bytes has 12 bits. -/
theorem sourceRawTemp_payload_lt (r : Regs) : sourceRawTemp (fun i => (r.payloadByte i).toNat) < 4096 := by
  rw [← decodeFields_rawTemp_toNat]
  exact (decodeFields r.in0 r.in1).rawTemp.isLt

/-- The source's rawWind of eight payload bytes has 12 bits. -/
theorem sourceRawWind_payload_lt (r : Regs) : sourceRawWind (fun i => (r.payloadByte i).toNat) < 4096 := by
  rw [← decodeFields_wind_toNat]
  exact (decodeFields r.in0 r.in1).wind.isLt

/-- A 12-bit number as a rational. -/
theorem cast_bounds_of_lt {n : Nat} (h : n < 4096) : (0 : Rat) ≤ n ∧ (n : Rat) ≤ 4095 :=
  ⟨Nat.cast_nonneg n, by exact_mod_cast Nat.le_of_lt_succ h⟩

/-- A decode of a LEN of 8 or more stands for the source's reading of IN0 and IN1. -/
theorem afterDecode_reading_eq {r : Regs} (h : 8 ≤ r.declaredLength) : r.afterDecode.reading = r.sourceReading := by
  rw [afterDecode_eq_latch h, latch_decodeFields_reading]

theorem sint_decodeFields_temp (in0 in1 : Word) :
    sint (decodeFields in0 in1).temp = ((decodeFields in0 in1).rawTemp.toNat : Int) - 500 :=
  sint_tempField _

/-- Settles O39: TEMP latches the offset of rawTemp, which has 12 bits. -/
theorem temperatureIsTheExactOffsetInTenths : Obligations.TemperatureIsTheExactOffsetInTenths := by
  unfold Obligations.TemperatureIsTheExactOffsetInTenths
  intro reserved s hlen
  rw [← declaredLength_eq] at hlen
  have htemp : s.regs.afterDecode.reading.temperature =
      ((sourceRawTemp fun i => (s.regs.payloadByte i).toNat : Rat) - 500) / 10 :=
    congrArg Reading.temperature (afterDecode_reading_eq hlen)
  refine ⟨_, rfl, ?_, htemp, ?_⟩
  · obtain ⟨_, hfields⟩ := afterDecode_reading_of_long hlen
    rw [← decodeFields_rawTemp_toNat, ← sint_decodeFields_temp, ← hfields.temp]
  · obtain ⟨hmin, hmax⟩ := cast_bounds_of_lt (sourceRawTemp_payload_lt s.regs)
    change -50 ≤ s.regs.afterDecode.reading.temperature ∧ s.regs.afterDecode.reading.temperature ≤ 3595 / 10
    rw [htemp]
    constructor <;> linarith

/-- Settles O41: WIND latches rawWind, which has 12 bits. -/
theorem windspeedIsRawWindInTenths : Obligations.WindspeedIsRawWindInTenths := by
  unfold Obligations.WindspeedIsRawWindInTenths
  intro reserved s hlen
  rw [← declaredLength_eq] at hlen
  have hwind : s.regs.afterDecode.reading.windspeed =
      (sourceRawWind fun i => (s.regs.payloadByte i).toNat : Rat) / 10 :=
    congrArg Reading.windspeed (afterDecode_reading_eq hlen)
  refine ⟨_, rfl, ?_, hwind, ?_⟩
  · obtain ⟨_, hfields⟩ := afterDecode_reading_of_long hlen
    rw [← decodeFields_wind_toNat]
    exact (congrArg BitVec.toNat hfields.wind).trans (toNat_zext32 (by decide) _)
  · obtain ⟨hmin, hmax⟩ := cast_bounds_of_lt (sourceRawWind_payload_lt s.regs)
    change 0 ≤ s.regs.afterDecode.reading.windspeed ∧ s.regs.afterDecode.reading.windspeed ≤ 4095 / 10
    rw [hwind]
    constructor <;> linarith

/-- A word whose signed value fits 13 bits reads the same by its low 13 bits. -/
theorem toInt_low13_of_fits {w : Word} (hlow : -4096 ≤ w.toInt) (hhigh : w.toInt < 4096) :
    (w.extractLsb' 0 13).toInt = w.toInt := by
  have hbits : (w.extractLsb' 0 13).toInt = Int.bmod w.toInt (2 ^ 13) := by
    rw [← BitVec.setWidth_eq_extractLsb' (by decide), BitVec.toInt_setWidth, BitVec.toInt_eq_toNat_bmod w,
      Int.bmod_bmod_of_dvd (by decide)]
  rw [hbits, Int.bmod_eq_of_le] <;> omega

/-- A word whose signed value fits 13 bits extends the sign of its low 13 bits. -/
theorem eq_signExtend_low13_of_fits {w : Word} (hlow : -4096 ≤ w.toInt) (hhigh : w.toInt < 4096) :
    w = (w.extractLsb' 0 13).signExtend 32 := by
  apply BitVec.eq_of_toInt_eq
  rw [BitVec.toInt_signExtend_of_le (by decide), toInt_low13_of_fits hlow hhigh]

/-- Bits 31:13 of a word whose signed value fits 13 bits are copies of bit 12. -/
theorem getLsbD_eq_bit12_of_fits {w : Word} (hlow : -4096 ≤ w.toInt) (hhigh : w.toInt < 4096) {k : Nat} (hk : 13 ≤ k)
    (hk' : k < 32) : w.getLsbD k = w.getLsbD 12 := by
  have hsign : (w.extractLsb' 0 13).msb = w.getLsbD 12 := by simp [BitVec.msb_eq_getLsbD_last]
  conv_lhs => rw [eq_signExtend_low13_of_fits hlow hhigh]
  rw [BitVec.getLsbD_signExtend, if_neg (by omega), hsign]
  simp [hk']

/-- Settles O40: the offset of a 12-bit number lies in -500..3595, which 13 bits hold. -/
theorem temperatureFitsThirteenBits : Obligations.TemperatureFitsThirteenBits := by
  unfold Obligations.TemperatureFitsThirteenBits
  intro in0 in1
  have hval := sint_decodeFields_temp in0 in1
  have hraw := (decodeFields in0 in1).rawTemp.isLt
  have hmin : -500 ≤ sint (decodeFields in0 in1).temp := by omega
  have hmax : sint (decodeFields in0 in1).temp ≤ 3595 := by omega
  have hlow : -4096 ≤ (decodeFields in0 in1).temp.toInt := le_trans (by decide) hmin
  have hhigh : (decodeFields in0 in1).temp.toInt < 4096 := lt_of_le_of_lt hmax (by decide)
  exact ⟨fun k hk hk' => getLsbD_eq_bit12_of_fits hlow hhigh hk hk', hmin, hmax, toInt_low13_of_fits hlow hhigh⟩

end Sys2Proof.Machine
end

section
/-! Which bytes and nibbles feed which field (41_decode.md R119). -/

namespace Sys2Proof.Machine

/-- Four bytes put together are the word the host packs (30_encoding.md R70). -/
theorem append_eq_packBytes (b0 b1 b2 b3 : Byte) : b3 ++ b2 ++ b1 ++ b0 = packBytes b0 b1 b2 b3 := by
  have h := devidField_byteOf (packBytes b0 b1 b2 b3)
  simp only [byteOf_packBytes, Nat.reduceLT] at h
  exact h

theorem decodeFields_temp_append (b0 b1 b2 b3 : Byte) (in1 : Word) :
    (decodeFields (b3 ++ b2 ++ b1 ++ b0) in1).temp = tempField (rawTempField b1 b2) := by
  simp [append_eq_packBytes, decodeFields, byteOf_packBytes]

theorem decodeFields_wind_append (b0 b1 b2 b3 : Byte) (in1 : Word) :
    (decodeFields (b3 ++ b2 ++ b1 ++ b0) in1).wind = rawWindField b2 b3 := by
  simp [append_eq_packBytes, decodeFields, byteOf_packBytes]

theorem toNat_append_eq_mul_add {m n : Nat} (x : BitVec m) (y : BitVec n) :
    (x ++ y).toNat = x.toNat * 2 ^ n + y.toNat := by
  rw [BitVec.toNat_append, ← Nat.shiftLeft_add_eq_or_of_lt y.isLt, Nat.shiftLeft_eq]

/-- Settles O42: rawTemp is made of byte 2's low nibble and byte 1, rawWind of byte 3 and byte 2's high nibble. -/
theorem nibblesFeedOneFieldEach : Obligations.NibblesFeedOneFieldEach := by
  unfold Obligations.NibblesFeedOneFieldEach
  intro b0 b1 b2 b3 c in1
  simp only [decodeFields_temp_append, decodeFields_wind_append, sint_tempField, rawTempField, rawWindField,
    toNat_append_eq_mul_add]
  exact ⟨fun hlow => ⟨by rw [hlow], by omega⟩, fun hhigh => ⟨by rw [hhigh], by omega⟩, trivial, trivial⟩

end Sys2Proof.Machine
end

section
/-! The corner cases of DECODE (41_decode.md R126). -/

namespace Sys2Proof.Machine

theorem decodeLeaves_iff {reserved : BitVec 31} {s : State} {in0 in1 len : Word} {p : Regs → Prop} :
    DecodeLeaves reserved s in0 in1 len p ↔
      p ({ s.regs with in0 := in0, in1 := in1, len := len } : Regs).afterDecode :=
  ⟨fun ⟨_, h, hp⟩ => by cases h; exact hp, fun hp => ⟨_, rfl, hp⟩⟩

/-- What a LEN whose low byte is 8 or more leaves. -/
theorem decodeLeaves_of_long {reserved : BitVec 31} {s : State} {in0 in1 len : Word} {p : Regs → Prop}
    (hlen : 8 ≤ len.toNat % 256)
    (hp : p (({ s.regs with in0 := in0, in1 := in1, len := len } : Regs).latch (decodeFields in0 in1))) :
    DecodeLeaves reserved s in0 in1 len p := by
  rw [decodeLeaves_iff, afterDecode_eq_latch (by rw [declaredLength_eq]; exact hlen)]
  exact hp

/-- What a LEN whose low byte is less than 8 leaves, whatever the inputs (41_decode.md R120). -/
theorem decodeLeaves_of_short {reserved : BitVec 31} {s : State} {in0 in1 len : Word} (hlen : len.toNat % 256 < 8) :
    DecodeLeaves reserved s in0 in1 len (fun r => r.OutputsZero ∧ r.status = 2) := by
  rw [decodeLeaves_iff, afterDecode_eq_raise (by rw [declaredLength_eq]; exact hlen)]
  exact ⟨raisePayloadTooShort_outputsZero _, rfl⟩

/-- rawTemp from byte 1 and byte 2's low nibble (41_decode.md R113). -/
theorem decodeFields_rawTemp_of_bytes {in0 : Word} {b : Byte} {n : BitVec 4} (hbyte : byteOf in0 1 = b)
    (hnibble : (byteOf in0 2).extractLsb' 0 4 = n) (in1 : Word) : (decodeFields in0 in1).rawTemp = n ++ b := by
  rw [← hbyte, ← hnibble]
  rfl

/-- Settles O46: each row's fields are evaluated from the bytes it gives, and LEN 255 latches what LEN 8 does. -/
theorem decodeCornerCases : Obligations.DecodeCornerCases := by
  unfold Obligations.DecodeCornerCases
  intro reserved s in0 in1
  have height : 8 ≤ (8 : Word).toNat % 256 := by decide
  refine ⟨decodeLeaves_of_long height ?_, decodeLeaves_of_long height ?_, fun hbyte hnibble => ?_,
    fun hbyte hnibble => ?_, fun hbyte hnibble => ?_, decodeLeaves_of_long height ?_,
    decodeLeaves_of_short (by decide), decodeLeaves_of_short (by decide), decodeLeaves_of_long (by decide) ?_⟩
  · have hfields : decodeFields 0 0 =
        { humidity := 0, rawTemp := 0, temp := 0xFFFFFE0C, wind := 0, devid := 0 } := by decide
    rw [hfields]
    exact ⟨rfl, rfl, rfl, rfl, rfl, rfl⟩
  · have hfields : decodeFields 0xFFFFFFFF 0xFFFFFFFF =
        { humidity := 0xFF, rawTemp := 0xFFF, temp := 0x00000E0B, wind := 0xFFF, devid := 0xFFFFFFFF } := by decide
    rw [hfields]
    exact ⟨rfl, rfl, rfl, rfl, rfl, rfl⟩
  · have hraw := decodeFields_rawTemp_of_bytes hbyte hnibble in1
    exact decodeLeaves_of_long height ((congrArg tempField hraw).trans (by decide))
  · have hraw := decodeFields_rawTemp_of_bytes hbyte hnibble in1
    exact decodeLeaves_of_long height ((congrArg tempField hraw).trans (by decide))
  · have hraw := decodeFields_rawTemp_of_bytes hbyte hnibble in1
    exact decodeLeaves_of_long height
      ⟨(congrArg zext32 hraw).trans (by decide), (congrArg tempField hraw).trans (by decide)⟩
  · have hdevid := decodeFields_devid in0 0x80000000
    exact ⟨hdevid, (congrArg BitVec.toNat hdevid).trans (by decide)⟩
  · exact decodeLeaves_of_long height ⟨rfl, rfl, rfl, rfl, rfl, rfl⟩

end Sys2Proof.Machine
end

section
/-! Requests that write no input register leave a decode's registers (20_memory.md R47). -/

namespace Sys2Proof.Machine

/-- A decode keeps the inputs it reads, so a second one leaves the same registers (20_memory.md R47). -/
theorem afterDecode_afterDecode (r : Regs) : r.afterDecode.afterDecode = r.afterDecode := by
  by_cases h : r.declaredLength < 8
  · have h' : r.raisePayloadTooShort.declaredLength < 8 := h
    rw [afterDecode_eq_raise h, afterDecode_eq_raise h']
    rfl
  · have hlong := Nat.le_of_not_lt h
    have hlong' : 8 ≤ (r.latch (decodeFields r.in0 r.in1)).declaredLength := hlong
    rw [afterDecode_eq_latch hlong, afterDecode_eq_latch hlong']
    rfl

/-- A request that writes no input register keeps the registers or decodes them. -/
theorem exec_regs_of_noInputWrite {q : RequestWord} {s t : State} (hq : reqWE q = true → 4 ≤ (reqWA q).toNat)
    (h : exec (decode q) s = .next t) : t.regs = s.regs ∨ t.regs = s.regs.afterDecode := by
  cases hwe : reqWE q with
  | false =>
    cases (everyReadAnswersItsSlot q s hwe).symm.trans h
    exact .inl rfl
  | true =>
    rw [decode_of_write hwe] at h
    obtain h4 | h5 := (hq hwe).eq_or_lt
    · have hctrl : reqWA q = 4 := BitVec.eq_of_toNat_eq h4.symm
      rw [hctrl] at h
      have h := (exec_decodeCtrl (reqWDATA q) s).symm.trans h
      split at h <;> cases h
      · exact .inr rfl
      · exact .inl rfl
    · cases (exec_decodeWrite_of_five_le h5 (reqWDATA q) s).symm.trans h
      exact .inl rfl

/-- Requests that write no input register complete and leave registers that a decode would not change. -/
theorem run_noInputWrites_of_decoded (qs : List RequestWord) {s : State} {rest : List BusEvent}
    (hr : s.inReset = false) (hdecoded : s.regs.afterDecode = s.regs)
    (hqs : ∀ q ∈ qs, reqWE q = true → 4 ≤ (reqWA q).toNat) (hb : s.bus = qs.map .request ++ rest) :
    ∃ t : State, Host.Core.run core qs.length s = .next t ∧ t.regs = s.regs ∧ t.bus = rest := by
  induction qs generalizing s with
  | nil => exact ⟨s, rfl, rfl, hb⟩
  | cons q qs ih =>
    obtain ⟨u, hu⟩ := exec_completes (decode q) { s with bus := qs.map .request ++ rest }
    obtain ⟨hureset, hubus⟩ := exec_keeps_interface hu
    have hregs : u.regs = s.regs :=
      (exec_regs_of_noInputWrite (hqs q (.head qs)) hu).elim id (fun h => h.trans hdecoded)
    obtain ⟨t, ht, htregs, hrest⟩ :=
      ih (hureset.trans hr) (hregs.symm ▸ hdecoded) (fun x hx => hqs x (.tail q hx)) hubus
    exact ⟨t, (run_succ_next _ ((step_request hr hb).trans hu)).trans ht, htregs.trans hregs, hrest⟩

/-- Settles O34: a read changes no register, a write frames the other slots, and the second DECODE is one more request
that writes no input register. -/
theorem readsAndRepeatedDecodesAreIdempotent : Obligations.ReadsAndRepeatedDecodesAreIdempotent := by
  unfold Obligations.ReadsAndRepeatedDecodesAreIdempotent
  refine ⟨fun q s hread => ?_, fun q s hwrite hno => ?_, fun s d d' qs rest hr hd _ hqs hb => ?_⟩
  · exact ⟨_, everyReadAnswersItsSlot q s hread, rfl, everyReadAnswersItsSlot q _ hread⟩
  · obtain ⟨t, ht, _, _, _, _, hframe⟩ := writesTouchOnlyTheirOwnSlot q s hwrite hno
    exact ⟨t, ht, hframe⟩
  · have hdecode : isDecode (decode (wrReq .ctrl d)) = true := by rw [decode_wrReq_ctrl, isDecode_decodeCtrl, hd]
    obtain ⟨u, hu⟩ := exec_completes (decode (wrReq .ctrl d))
      { s with bus := qs.map .request ++ .request (wrReq .ctrl d') :: rest }
    obtain ⟨hureset, hubus⟩ := exec_keeps_interface hu
    have huregs := exec_afterDecode hdecode hu
    have hdecoded : u.regs.afterDecode = u.regs := by rw [huregs, afterDecode_afterDecode]
    have hstep : step s = .next u := (step_request hr hb).trans hu
    have hall : ∀ q ∈ qs ++ [wrReq .ctrl d'], reqWE q = true → 4 ≤ (reqWA q).toNat := by
      simp only [List.forall_mem_append, List.forall_mem_singleton]
      exact ⟨hqs, fun _ => by simp [wrReq, slotIndex]⟩
    obtain ⟨t, ht, htregs, hrest⟩ := run_noInputWrites_of_decoded (qs ++ [wrReq .ctrl d']) (rest := rest)
      (hureset.trans hr) hdecoded hall (by simp [hubus])
    rw [List.length_append] at ht
    exact ⟨u, t, run_succ_next 0 hstep, (run_succ_next _ hstep).trans ht, htregs, hrest⟩

end Sys2Proof.Machine
end

section
/-! Reset: what the reset input's events do, what a request meets while reset is asserted, and what the reset values
amount to (70_reset_and_hazards.md R150, R151). -/

namespace Sys2Proof.Machine

/-! ### Events of the reset input, and requests while it is asserted -/

theorem step_of_assertReset {s : State} {rest : List BusEvent} (hb : s.bus = .assertReset :: rest) :
    step s = .next (State.assertReset { s with bus := rest }) := by
  simp only [step, hb, arrive]

theorem step_of_releaseReset {s : State} {rest : List BusEvent} (hb : s.bus = .releaseReset :: rest) :
    step s = .next (State.releaseReset { s with bus := rest }) := by
  simp only [step, hb, arrive]

/-- Settles O2: asserting leaves the reset values, releasing leaves the registers it finds. -/
theorem assertingResetClearsEveryRegister : Obligations.AssertingResetClearsEveryRegister := by
  unfold Obligations.AssertingResetClearsEveryRegister
  exact ⟨fun _ _ hb => step_of_assertReset hb, fun _ _ hb => step_of_releaseReset hb⟩

/-- Settles O3: a request that arrives in reset is not performed. -/
theorem accessDuringResetIsStuck : Obligations.AccessDuringResetIsStuck := by
  unfold Obligations.AccessDuringResetIsStuck
  exact fun _ _ _ hr hb => step_request_of_inReset hr hb

/-! ### The reset values -/

theorem byteOf_zero (j : Nat) : byteOf 0 j = 0 := by
  simp [byteOf]

theorem reset_payloadByte (i : Nat) : Regs.reset.payloadByte i = 0 := by
  unfold Regs.payloadByte
  split
  · exact byteOf_zero i
  · exact byteOf_zero (i - 4)

theorem reset_slotValue (wa : BitVec 4) : Regs.reset.slotValue wa = 0 := by
  unfold Regs.slotValue
  split <;> rfl

/-- LEN is 0, so the length check fails; the outputs it clears are 0 already (70_reset_and_hazards.md R150). -/
theorem reset_afterDecode : Regs.reset.afterDecode = { Regs.reset with status := 2 } :=
  calc Regs.reset.afterDecode
    _ = Regs.reset.raisePayloadTooShort := afterDecode_eq_raise (by decide)
    _ = { Regs.reset with status := 2 } := rfl

/-- Settles O1: asserting reset stores the values of R150, and each consequence is read off them. -/
theorem resetLeavesEveryRegisterZero : Obligations.ResetLeavesEveryRegisterZero := by
  unfold Obligations.ResetLeavesEveryRegisterZero
  refine ⟨rfl, State.assertReset_regs, fun i _ => reset_payloadByte i, reset_slotValue, reset_valid, reset_short, ?_⟩
  exact fun reserved => congrArg (acceptWrite · State.reset) reset_afterDecode

end Sys2Proof.Machine
end
